-- ==== Sys2Proof/Word.lean ====
section
/-! DEFINITION. The word types of the block (00_scope.md R8, R11): a byte on the 8-bit data bus, a 16-bit
register or offset, and a 24-bit bus address. Everything computed from them stands in Machine/Bits.lean. -/

namespace Sys2Proof

/-- One byte: the data bus, DB, PB, an operand byte (R8, R60). -/
abbrev Byte := BitVec 8

/-- A 16-bit register or an offset within a bank (R8). -/
abbrev Word := BitVec 16

/-- A 24-bit bus address, a bank in bits 23:16 and an offset in bits 15:0 (R8, R11, R64). -/
abbrev Addr := BitVec 24

end Sys2Proof
end

