-- ==== Sys2Proof/Syntax.lean ====
section
/-! DEFINITION. The instructions: one constructor for each of the 256 rows of the opcode table (30_encoding.md R101,
R102), named by its mnemonic and addressing mode, with its operand fields (R91 to R96). The suffixes are Dp direct,
Abs absolute, Long absolute long, Sr stack relative, Imm immediate, A accumulator, with X, Y for the index and Ind for
an indirection. -/

namespace Sys2Proof

/-- An immediate operand of a format whose length depends on a width flag (R92, R97): one byte, or two. -/
inductive Imm where
  | b8 (v : Byte)
  | b16 (v : Word)
  deriving DecidableEq, Repr

/-- The instructions (R101, R102): those with operand bytes in the order of their opcodes, then those of one byte. -/
inductive Instr where
  /-- 0x00 BRK #$nn (OP_B, R430). -/
  | brk (sig : Byte)
  /-- 0x01 ORA ($nn,X) (OP_B, R237). -/
  | oraDpXInd (off : Byte)
  /-- 0x02 COP #$nn (OP_B, R431). -/
  | cop (sig : Byte)
  /-- 0x03 ORA $nn,S (OP_B, R237). -/
  | oraSr (off : Byte)
  /-- 0x04 TSB $nn (OP_B, R271). -/
  | tsbDp (off : Byte)
  /-- 0x05 ORA $nn (OP_B, R237). -/
  | oraDp (off : Byte)
  /-- 0x06 ASL $nn (OP_B, R261). -/
  | aslDp (off : Byte)
  /-- 0x07 ORA [$nn] (OP_B, R237). -/
  | oraDpLong (off : Byte)
  /-- 0x09 ORA # (OP_IM, R237). -/
  | oraImm (imm : Imm)
  /-- 0x0C TSB $nnnn (OP_W, R271). -/
  | tsbAbs (aa : Word)
  /-- 0x0D ORA $nnnn (OP_W, R237). -/
  | oraAbs (aa : Word)
  /-- 0x0E ASL $nnnn (OP_W, R261). -/
  | aslAbs (aa : Word)
  /-- 0x0F ORA $nnnnnn (OP_L, R237). -/
  | oraLong (al : Addr)
  /-- 0x10 BPL label (OP_B, R391). -/
  | bpl (rel : Byte)
  /-- 0x11 ORA ($nn),Y (OP_B, R237). -/
  | oraDpIndY (off : Byte)
  /-- 0x12 ORA ($nn) (OP_B, R237). -/
  | oraDpInd (off : Byte)
  /-- 0x13 ORA ($nn,S),Y (OP_B, R237). -/
  | oraSrIndY (off : Byte)
  /-- 0x14 TRB $nn (OP_B, R272). -/
  | trbDp (off : Byte)
  /-- 0x15 ORA $nn,X (OP_B, R237). -/
  | oraDpX (off : Byte)
  /-- 0x16 ASL $nn,X (OP_B, R261). -/
  | aslDpX (off : Byte)
  /-- 0x17 ORA [$nn],Y (OP_B, R237). -/
  | oraDpLongY (off : Byte)
  /-- 0x19 ORA $nnnn,Y (OP_W, R237). -/
  | oraAbsY (aa : Word)
  /-- 0x1C TRB $nnnn (OP_W, R272). -/
  | trbAbs (aa : Word)
  /-- 0x1D ORA $nnnn,X (OP_W, R237). -/
  | oraAbsX (aa : Word)
  /-- 0x1E ASL $nnnn,X (OP_W, R261). -/
  | aslAbsX (aa : Word)
  /-- 0x1F ORA $nnnnnn,X (OP_L, R237). -/
  | oraLongX (al : Addr)
  /-- 0x20 JSR $nnnn (OP_W, R406). -/
  | jsrAbs (aa : Word)
  /-- 0x21 AND ($nn,X) (OP_B, R236). -/
  | andDpXInd (off : Byte)
  /-- 0x22 JSL $nnnnnn (OP_L, R408). -/
  | jsl (al : Addr)
  /-- 0x23 AND $nn,S (OP_B, R236). -/
  | andSr (off : Byte)
  /-- 0x24 BIT $nn (OP_B, R239). -/
  | bitDp (off : Byte)
  /-- 0x25 AND $nn (OP_B, R236). -/
  | andDp (off : Byte)
  /-- 0x26 ROL $nn (OP_B, R263). -/
  | rolDp (off : Byte)
  /-- 0x27 AND [$nn] (OP_B, R236). -/
  | andDpLong (off : Byte)
  /-- 0x29 AND # (OP_IM, R236). -/
  | andImm (imm : Imm)
  /-- 0x2C BIT $nnnn (OP_W, R239). -/
  | bitAbs (aa : Word)
  /-- 0x2D AND $nnnn (OP_W, R236). -/
  | andAbs (aa : Word)
  /-- 0x2E ROL $nnnn (OP_W, R263). -/
  | rolAbs (aa : Word)
  /-- 0x2F AND $nnnnnn (OP_L, R236). -/
  | andLong (al : Addr)
  /-- 0x30 BMI label (OP_B, R392). -/
  | bmi (rel : Byte)
  /-- 0x31 AND ($nn),Y (OP_B, R236). -/
  | andDpIndY (off : Byte)
  /-- 0x32 AND ($nn) (OP_B, R236). -/
  | andDpInd (off : Byte)
  /-- 0x33 AND ($nn,S),Y (OP_B, R236). -/
  | andSrIndY (off : Byte)
  /-- 0x34 BIT $nn,X (OP_B, R239). -/
  | bitDpX (off : Byte)
  /-- 0x35 AND $nn,X (OP_B, R236). -/
  | andDpX (off : Byte)
  /-- 0x36 ROL $nn,X (OP_B, R263). -/
  | rolDpX (off : Byte)
  /-- 0x37 AND [$nn],Y (OP_B, R236). -/
  | andDpLongY (off : Byte)
  /-- 0x39 AND $nnnn,Y (OP_W, R236). -/
  | andAbsY (aa : Word)
  /-- 0x3C BIT $nnnn,X (OP_W, R239). -/
  | bitAbsX (aa : Word)
  /-- 0x3D AND $nnnn,X (OP_W, R236). -/
  | andAbsX (aa : Word)
  /-- 0x3E ROL $nnnn,X (OP_W, R263). -/
  | rolAbsX (aa : Word)
  /-- 0x3F AND $nnnnnn,X (OP_L, R236). -/
  | andLongX (al : Addr)
  /-- 0x41 EOR ($nn,X) (OP_B, R238). -/
  | eorDpXInd (off : Byte)
  /-- 0x42 WDM #$nn (OP_B, R435). -/
  | wdm (sig : Byte)
  /-- 0x43 EOR $nn,S (OP_B, R238). -/
  | eorSr (off : Byte)
  /-- 0x44 MVP $ss,$dd (OP_BB, R344). -/
  | mvp (dst : Byte) (src : Byte)
  /-- 0x45 EOR $nn (OP_B, R238). -/
  | eorDp (off : Byte)
  /-- 0x46 LSR $nn (OP_B, R262). -/
  | lsrDp (off : Byte)
  /-- 0x47 EOR [$nn] (OP_B, R238). -/
  | eorDpLong (off : Byte)
  /-- 0x49 EOR # (OP_IM, R238). -/
  | eorImm (imm : Imm)
  /-- 0x4C JMP $nnnn (OP_W, R401). -/
  | jmpAbs (aa : Word)
  /-- 0x4D EOR $nnnn (OP_W, R238). -/
  | eorAbs (aa : Word)
  /-- 0x4E LSR $nnnn (OP_W, R262). -/
  | lsrAbs (aa : Word)
  /-- 0x4F EOR $nnnnnn (OP_L, R238). -/
  | eorLong (al : Addr)
  /-- 0x50 BVC label (OP_B, R393). -/
  | bvc (rel : Byte)
  /-- 0x51 EOR ($nn),Y (OP_B, R238). -/
  | eorDpIndY (off : Byte)
  /-- 0x52 EOR ($nn) (OP_B, R238). -/
  | eorDpInd (off : Byte)
  /-- 0x53 EOR ($nn,S),Y (OP_B, R238). -/
  | eorSrIndY (off : Byte)
  /-- 0x54 MVN $ss,$dd (OP_BB, R343). -/
  | mvn (dst : Byte) (src : Byte)
  /-- 0x55 EOR $nn,X (OP_B, R238). -/
  | eorDpX (off : Byte)
  /-- 0x56 LSR $nn,X (OP_B, R262). -/
  | lsrDpX (off : Byte)
  /-- 0x57 EOR [$nn],Y (OP_B, R238). -/
  | eorDpLongY (off : Byte)
  /-- 0x59 EOR $nnnn,Y (OP_W, R238). -/
  | eorAbsY (aa : Word)
  /-- 0x5C JML $nnnnnn (OP_L, R402). -/
  | jmlLong (al : Addr)
  /-- 0x5D EOR $nnnn,X (OP_W, R238). -/
  | eorAbsX (aa : Word)
  /-- 0x5E LSR $nnnn,X (OP_W, R262). -/
  | lsrAbsX (aa : Word)
  /-- 0x5F EOR $nnnnnn,X (OP_L, R238). -/
  | eorLongX (al : Addr)
  /-- 0x61 ADC ($nn,X) (OP_B, R231). -/
  | adcDpXInd (off : Byte)
  /-- 0x62 PER label (OP_W, R341). -/
  | per (rel : Word)
  /-- 0x63 ADC $nn,S (OP_B, R231). -/
  | adcSr (off : Byte)
  /-- 0x64 STZ $nn (OP_B, R296). -/
  | stzDp (off : Byte)
  /-- 0x65 ADC $nn (OP_B, R231). -/
  | adcDp (off : Byte)
  /-- 0x66 ROR $nn (OP_B, R264). -/
  | rorDp (off : Byte)
  /-- 0x67 ADC [$nn] (OP_B, R231). -/
  | adcDpLong (off : Byte)
  /-- 0x69 ADC # (OP_IM, R231). -/
  | adcImm (imm : Imm)
  /-- 0x6C JMP ($nnnn) (OP_W, R403). -/
  | jmpInd (aa : Word)
  /-- 0x6D ADC $nnnn (OP_W, R231). -/
  | adcAbs (aa : Word)
  /-- 0x6E ROR $nnnn (OP_W, R264). -/
  | rorAbs (aa : Word)
  /-- 0x6F ADC $nnnnnn (OP_L, R231). -/
  | adcLong (al : Addr)
  /-- 0x70 BVS label (OP_B, R394). -/
  | bvs (rel : Byte)
  /-- 0x71 ADC ($nn),Y (OP_B, R231). -/
  | adcDpIndY (off : Byte)
  /-- 0x72 ADC ($nn) (OP_B, R231). -/
  | adcDpInd (off : Byte)
  /-- 0x73 ADC ($nn,S),Y (OP_B, R231). -/
  | adcSrIndY (off : Byte)
  /-- 0x74 STZ $nn,X (OP_B, R296). -/
  | stzDpX (off : Byte)
  /-- 0x75 ADC $nn,X (OP_B, R231). -/
  | adcDpX (off : Byte)
  /-- 0x76 ROR $nn,X (OP_B, R264). -/
  | rorDpX (off : Byte)
  /-- 0x77 ADC [$nn],Y (OP_B, R231). -/
  | adcDpLongY (off : Byte)
  /-- 0x79 ADC $nnnn,Y (OP_W, R231). -/
  | adcAbsY (aa : Word)
  /-- 0x7C JMP ($nnnn,X) (OP_W, R404). -/
  | jmpXInd (aa : Word)
  /-- 0x7D ADC $nnnn,X (OP_W, R231). -/
  | adcAbsX (aa : Word)
  /-- 0x7E ROR $nnnn,X (OP_W, R264). -/
  | rorAbsX (aa : Word)
  /-- 0x7F ADC $nnnnnn,X (OP_L, R231). -/
  | adcLongX (al : Addr)
  /-- 0x80 BRA label (OP_B, R399). -/
  | bra (rel : Byte)
  /-- 0x81 STA ($nn,X) (OP_B, R293). -/
  | staDpXInd (off : Byte)
  /-- 0x82 BRL label (OP_W, R400). -/
  | brl (rel : Word)
  /-- 0x83 STA $nn,S (OP_B, R293). -/
  | staSr (off : Byte)
  /-- 0x84 STY $nn (OP_B, R295). -/
  | styDp (off : Byte)
  /-- 0x85 STA $nn (OP_B, R293). -/
  | staDp (off : Byte)
  /-- 0x86 STX $nn (OP_B, R294). -/
  | stxDp (off : Byte)
  /-- 0x87 STA [$nn] (OP_B, R293). -/
  | staDpLong (off : Byte)
  /-- 0x89 BIT # (OP_IM, R239). -/
  | bitImm (imm : Imm)
  /-- 0x8C STY $nnnn (OP_W, R295). -/
  | styAbs (aa : Word)
  /-- 0x8D STA $nnnn (OP_W, R293). -/
  | staAbs (aa : Word)
  /-- 0x8E STX $nnnn (OP_W, R294). -/
  | stxAbs (aa : Word)
  /-- 0x8F STA $nnnnnn (OP_L, R293). -/
  | staLong (al : Addr)
  /-- 0x90 BCC label (OP_B, R395). -/
  | bcc (rel : Byte)
  /-- 0x91 STA ($nn),Y (OP_B, R293). -/
  | staDpIndY (off : Byte)
  /-- 0x92 STA ($nn) (OP_B, R293). -/
  | staDpInd (off : Byte)
  /-- 0x93 STA ($nn,S),Y (OP_B, R293). -/
  | staSrIndY (off : Byte)
  /-- 0x94 STY $nn,X (OP_B, R295). -/
  | styDpX (off : Byte)
  /-- 0x95 STA $nn,X (OP_B, R293). -/
  | staDpX (off : Byte)
  /-- 0x96 STX $nn,Y (OP_B, R294). -/
  | stxDpY (off : Byte)
  /-- 0x97 STA [$nn],Y (OP_B, R293). -/
  | staDpLongY (off : Byte)
  /-- 0x99 STA $nnnn,Y (OP_W, R293). -/
  | staAbsY (aa : Word)
  /-- 0x9C STZ $nnnn (OP_W, R296). -/
  | stzAbs (aa : Word)
  /-- 0x9D STA $nnnn,X (OP_W, R293). -/
  | staAbsX (aa : Word)
  /-- 0x9E STZ $nnnn,X (OP_W, R296). -/
  | stzAbsX (aa : Word)
  /-- 0x9F STA $nnnnnn,X (OP_L, R293). -/
  | staLongX (al : Addr)
  /-- 0xA0 LDY # (OP_IX, R292). -/
  | ldyImm (imm : Imm)
  /-- 0xA1 LDA ($nn,X) (OP_B, R290). -/
  | ldaDpXInd (off : Byte)
  /-- 0xA2 LDX # (OP_IX, R291). -/
  | ldxImm (imm : Imm)
  /-- 0xA3 LDA $nn,S (OP_B, R290). -/
  | ldaSr (off : Byte)
  /-- 0xA4 LDY $nn (OP_B, R292). -/
  | ldyDp (off : Byte)
  /-- 0xA5 LDA $nn (OP_B, R290). -/
  | ldaDp (off : Byte)
  /-- 0xA6 LDX $nn (OP_B, R291). -/
  | ldxDp (off : Byte)
  /-- 0xA7 LDA [$nn] (OP_B, R290). -/
  | ldaDpLong (off : Byte)
  /-- 0xA9 LDA # (OP_IM, R290). -/
  | ldaImm (imm : Imm)
  /-- 0xAC LDY $nnnn (OP_W, R292). -/
  | ldyAbs (aa : Word)
  /-- 0xAD LDA $nnnn (OP_W, R290). -/
  | ldaAbs (aa : Word)
  /-- 0xAE LDX $nnnn (OP_W, R291). -/
  | ldxAbs (aa : Word)
  /-- 0xAF LDA $nnnnnn (OP_L, R290). -/
  | ldaLong (al : Addr)
  /-- 0xB0 BCS label (OP_B, R396). -/
  | bcs (rel : Byte)
  /-- 0xB1 LDA ($nn),Y (OP_B, R290). -/
  | ldaDpIndY (off : Byte)
  /-- 0xB2 LDA ($nn) (OP_B, R290). -/
  | ldaDpInd (off : Byte)
  /-- 0xB3 LDA ($nn,S),Y (OP_B, R290). -/
  | ldaSrIndY (off : Byte)
  /-- 0xB4 LDY $nn,X (OP_B, R292). -/
  | ldyDpX (off : Byte)
  /-- 0xB5 LDA $nn,X (OP_B, R290). -/
  | ldaDpX (off : Byte)
  /-- 0xB6 LDX $nn,Y (OP_B, R291). -/
  | ldxDpY (off : Byte)
  /-- 0xB7 LDA [$nn],Y (OP_B, R290). -/
  | ldaDpLongY (off : Byte)
  /-- 0xB9 LDA $nnnn,Y (OP_W, R290). -/
  | ldaAbsY (aa : Word)
  /-- 0xBC LDY $nnnn,X (OP_W, R292). -/
  | ldyAbsX (aa : Word)
  /-- 0xBD LDA $nnnn,X (OP_W, R290). -/
  | ldaAbsX (aa : Word)
  /-- 0xBE LDX $nnnn,Y (OP_W, R291). -/
  | ldxAbsY (aa : Word)
  /-- 0xBF LDA $nnnnnn,X (OP_L, R290). -/
  | ldaLongX (al : Addr)
  /-- 0xC0 CPY # (OP_IX, R235). -/
  | cpyImm (imm : Imm)
  /-- 0xC1 CMP ($nn,X) (OP_B, R233). -/
  | cmpDpXInd (off : Byte)
  /-- 0xC2 REP #$nn (OP_B, R367). -/
  | rep (mask : Byte)
  /-- 0xC3 CMP $nn,S (OP_B, R233). -/
  | cmpSr (off : Byte)
  /-- 0xC4 CPY $nn (OP_B, R235). -/
  | cpyDp (off : Byte)
  /-- 0xC5 CMP $nn (OP_B, R233). -/
  | cmpDp (off : Byte)
  /-- 0xC6 DEC $nn (OP_B, R266). -/
  | decDp (off : Byte)
  /-- 0xC7 CMP [$nn] (OP_B, R233). -/
  | cmpDpLong (off : Byte)
  /-- 0xC9 CMP # (OP_IM, R233). -/
  | cmpImm (imm : Imm)
  /-- 0xCC CPY $nnnn (OP_W, R235). -/
  | cpyAbs (aa : Word)
  /-- 0xCD CMP $nnnn (OP_W, R233). -/
  | cmpAbs (aa : Word)
  /-- 0xCE DEC $nnnn (OP_W, R266). -/
  | decAbs (aa : Word)
  /-- 0xCF CMP $nnnnnn (OP_L, R233). -/
  | cmpLong (al : Addr)
  /-- 0xD0 BNE label (OP_B, R397). -/
  | bne (rel : Byte)
  /-- 0xD1 CMP ($nn),Y (OP_B, R233). -/
  | cmpDpIndY (off : Byte)
  /-- 0xD2 CMP ($nn) (OP_B, R233). -/
  | cmpDpInd (off : Byte)
  /-- 0xD3 CMP ($nn,S),Y (OP_B, R233). -/
  | cmpSrIndY (off : Byte)
  /-- 0xD4 PEI ($nn) (OP_B, R340). -/
  | pei (off : Byte)
  /-- 0xD5 CMP $nn,X (OP_B, R233). -/
  | cmpDpX (off : Byte)
  /-- 0xD6 DEC $nn,X (OP_B, R266). -/
  | decDpX (off : Byte)
  /-- 0xD7 CMP [$nn],Y (OP_B, R233). -/
  | cmpDpLongY (off : Byte)
  /-- 0xD9 CMP $nnnn,Y (OP_W, R233). -/
  | cmpAbsY (aa : Word)
  /-- 0xDC JML [$nnnn] (OP_W, R405). -/
  | jmlIndLong (aa : Word)
  /-- 0xDD CMP $nnnn,X (OP_W, R233). -/
  | cmpAbsX (aa : Word)
  /-- 0xDE DEC $nnnn,X (OP_W, R266). -/
  | decAbsX (aa : Word)
  /-- 0xDF CMP $nnnnnn,X (OP_L, R233). -/
  | cmpLongX (al : Addr)
  /-- 0xE0 CPX # (OP_IX, R234). -/
  | cpxImm (imm : Imm)
  /-- 0xE1 SBC ($nn,X) (OP_B, R232). -/
  | sbcDpXInd (off : Byte)
  /-- 0xE2 SEP #$nn (OP_B, R368). -/
  | sep (mask : Byte)
  /-- 0xE3 SBC $nn,S (OP_B, R232). -/
  | sbcSr (off : Byte)
  /-- 0xE4 CPX $nn (OP_B, R234). -/
  | cpxDp (off : Byte)
  /-- 0xE5 SBC $nn (OP_B, R232). -/
  | sbcDp (off : Byte)
  /-- 0xE6 INC $nn (OP_B, R265). -/
  | incDp (off : Byte)
  /-- 0xE7 SBC [$nn] (OP_B, R232). -/
  | sbcDpLong (off : Byte)
  /-- 0xE9 SBC # (OP_IM, R232). -/
  | sbcImm (imm : Imm)
  /-- 0xEC CPX $nnnn (OP_W, R234). -/
  | cpxAbs (aa : Word)
  /-- 0xED SBC $nnnn (OP_W, R232). -/
  | sbcAbs (aa : Word)
  /-- 0xEE INC $nnnn (OP_W, R265). -/
  | incAbs (aa : Word)
  /-- 0xEF SBC $nnnnnn (OP_L, R232). -/
  | sbcLong (al : Addr)
  /-- 0xF0 BEQ label (OP_B, R398). -/
  | beq (rel : Byte)
  /-- 0xF1 SBC ($nn),Y (OP_B, R232). -/
  | sbcDpIndY (off : Byte)
  /-- 0xF2 SBC ($nn) (OP_B, R232). -/
  | sbcDpInd (off : Byte)
  /-- 0xF3 SBC ($nn,S),Y (OP_B, R232). -/
  | sbcSrIndY (off : Byte)
  /-- 0xF4 PEA $nnnn (OP_W, R339). -/
  | pea (aa : Word)
  /-- 0xF5 SBC $nn,X (OP_B, R232). -/
  | sbcDpX (off : Byte)
  /-- 0xF6 INC $nn,X (OP_B, R265). -/
  | incDpX (off : Byte)
  /-- 0xF7 SBC [$nn],Y (OP_B, R232). -/
  | sbcDpLongY (off : Byte)
  /-- 0xF9 SBC $nnnn,Y (OP_W, R232). -/
  | sbcAbsY (aa : Word)
  /-- 0xFC JSR ($nnnn,X) (OP_W, R407). -/
  | jsrXInd (aa : Word)
  /-- 0xFD SBC $nnnn,X (OP_W, R232). -/
  | sbcAbsX (aa : Word)
  /-- 0xFE INC $nnnn,X (OP_W, R265). -/
  | incAbsX (aa : Word)
  /-- 0xFF SBC $nnnnnn,X (OP_L, R232). -/
  | sbcLongX (al : Addr)
  /-- 0x08 PHP (OP, R328). -/
  | php
  /-- 0x0A ASL A (OP, R261). -/
  | aslA
  /-- 0x0B PHD (OP, R331). -/
  | phd
  /-- 0x18 CLC (OP, R360). -/
  | clc
  /-- 0x1A INC A (OP, R265). -/
  | incA
  /-- 0x1B TCS (OP, R319). -/
  | tcs
  /-- 0x28 PLP (OP, R336). -/
  | plp
  /-- 0x2A ROL A (OP, R263). -/
  | rolA
  /-- 0x2B PLD (OP, R338). -/
  | pld
  /-- 0x38 SEC (OP, R361). -/
  | sec
  /-- 0x3A DEC A (OP, R266). -/
  | decA
  /-- 0x3B TSC (OP, R320). -/
  | tsc
  /-- 0x40 RTI (OP, R432). -/
  | rti
  /-- 0x48 PHA (OP, R325). -/
  | pha
  /-- 0x4A LSR A (OP, R262). -/
  | lsrA
  /-- 0x4B PHK (OP, R330). -/
  | phk
  /-- 0x58 CLI (OP, R364). -/
  | cli
  /-- 0x5A PHY (OP, R327). -/
  | phy
  /-- 0x5B TCD (OP, R321). -/
  | tcd
  /-- 0x60 RTS (OP, R409). -/
  | rts
  /-- 0x68 PLA (OP, R333). -/
  | pla
  /-- 0x6A ROR A (OP, R264). -/
  | rorA
  /-- 0x6B RTL (OP, R410). -/
  | rtl
  /-- 0x78 SEI (OP, R365). -/
  | sei
  /-- 0x7A PLY (OP, R335). -/
  | ply
  /-- 0x7B TDC (OP, R322). -/
  | tdc
  /-- 0x88 DEY (OP, R270). -/
  | dey
  /-- 0x8A TXA (OP, R313). -/
  | txa
  /-- 0x8B PHB (OP, R329). -/
  | phb
  /-- 0x98 TYA (OP, R314). -/
  | tya
  /-- 0x9A TXS (OP, R318). -/
  | txs
  /-- 0x9B TXY (OP, R315). -/
  | txy
  /-- 0xA8 TAY (OP, R312). -/
  | tay
  /-- 0xAA TAX (OP, R311). -/
  | tax
  /-- 0xAB PLB (OP, R337). -/
  | plb
  /-- 0xB8 CLV (OP, R366). -/
  | clv
  /-- 0xBA TSX (OP, R317). -/
  | tsx
  /-- 0xBB TYX (OP, R316). -/
  | tyx
  /-- 0xC8 INY (OP, R268). -/
  | iny
  /-- 0xCA DEX (OP, R269). -/
  | dex
  /-- 0xCB WAI (OP, R433). -/
  | wai
  /-- 0xD8 CLD (OP, R362). -/
  | cld
  /-- 0xDA PHX (OP, R326). -/
  | phx
  /-- 0xDB STP (OP, R434). -/
  | stp
  /-- 0xE8 INX (OP, R267). -/
  | inx
  /-- 0xEA NOP (OP, R372). -/
  | nop
  /-- 0xEB XBA (OP, R323). -/
  | xba
  /-- 0xF8 SED (OP, R363). -/
  | sed
  /-- 0xFA PLX (OP, R334). -/
  | plx
  /-- 0xFB XCE (OP, R370). -/
  | xce
  deriving DecidableEq, Repr

end Sys2Proof
end

