-- ==== Sys2Proof/Machine/Bits.lean ====
section
/-! DEFINITION. Bit fields, byte order and address composition (00_scope.md R11, R12; 20_memory.md R65, R67). -/

namespace Sys2Proof.Machine

/-- `lo8(v) = v[7:0]` (R11). -/
def lo8 (v : Word) : Byte := v.extractLsb' 0 8

/-- `hi8(v) = v[15:8]` (R11). -/
def hi8 (v : Word) : Byte := v.extractLsb' 8 8

/-- `{h, l}`: the high byte in the upper bits (R11). -/
def word (h l : Byte) : Word := h ++ l

/-- `b:o`, the 24-bit address of offset `o` in bank `b` (R11). -/
def addr (b : Byte) (o : Word) : Addr := b ++ o

/-- `bank(a) = a[23:16]` (R11). -/
def bankOf (a : Addr) : Byte := a.extractLsb' 16 8

/-- `offset(a) = a[15:0]` (R11). -/
def offsetOf (a : Addr) : Word := a.extractLsb' 0 16

/-- `zext_16` of a byte (R12, R93). -/
def zext (b : Byte) : Word := b.setWidth 16

/-- `sext_16` of a byte (R12, R95). -/
def sext (b : Byte) : Word := b.signExtend 16

/-- Byte `k` of a number whose bit 0 is the least significant bit of byte 0 (R91). -/
def byteOf (w k : Nat) : Byte := BitVec.ofNat 8 (w >>> (8 * k))

/-- The operand bytes of a 16-bit field, low byte first (R91, R94). -/
def bytesW (w : Word) : List Byte := [lo8 w, hi8 w]

/-- The operand bytes of a 24-bit field: AAL, AAH, AAB (R91, R94). -/
def bytesL (a : Addr) : List Byte := [lo8 (offsetOf a), hi8 (offsetOf a), bankOf a]

/-- The operand bytes of an immediate (R92). -/
def immBytes : Imm → List Byte
  | .b8 v => [v]
  | .b16 v => bytesW v

/-- `cross(base, i)`: adding the index changes the high byte of the 16-bit base (R154). -/
def crosses (base i : Word) : Bool := hi8 base != hi8 (base + i)

/-- The low `n` bits of a register replaced by an `n`-bit value, the high byte kept where `n` is 8 (R21, R22). -/
def putLow (old : Word) {n : Nat} (v : BitVec n) : Word :=
  if n = 8 then word (hi8 old) (v.setWidth 8) else v.setWidth 16

end Sys2Proof.Machine
end

