-- ==== Sys2Proof/WellFormed.lean ====
section
/-! DEFINITION. Which instructions are well formed: an immediate operand has the width of the flag its format depends
on (30_encoding.md R97). Every other operand value is valid (R100). -/

namespace Sys2Proof

/-- The immediate is one byte exactly when the width is 8 bits (R92, R97). -/
def Imm.fits (w8 : Bool) : Imm → Bool
  | .b8 _ => w8
  | .b16 _ => !w8

/-- Well-formed under the width flags `m8` (M = 1) and `x8` (X_flag = 1) in force at the boundary before it. -/
def Instr.wellFormed (m8 x8 : Bool) : Instr → Bool
  | .brk _ => true
  | .oraDpXInd _ => true
  | .cop _ => true
  | .oraSr _ => true
  | .tsbDp _ => true
  | .oraDp _ => true
  | .aslDp _ => true
  | .oraDpLong _ => true
  | .php => true
  | .oraImm imm => imm.fits m8
  | .aslA => true
  | .phd => true
  | .tsbAbs _ => true
  | .oraAbs _ => true
  | .aslAbs _ => true
  | .oraLong _ => true
  | .bpl _ => true
  | .oraDpIndY _ => true
  | .oraDpInd _ => true
  | .oraSrIndY _ => true
  | .trbDp _ => true
  | .oraDpX _ => true
  | .aslDpX _ => true
  | .oraDpLongY _ => true
  | .clc => true
  | .oraAbsY _ => true
  | .incA => true
  | .tcs => true
  | .trbAbs _ => true
  | .oraAbsX _ => true
  | .aslAbsX _ => true
  | .oraLongX _ => true
  | .jsrAbs _ => true
  | .andDpXInd _ => true
  | .jsl _ => true
  | .andSr _ => true
  | .bitDp _ => true
  | .andDp _ => true
  | .rolDp _ => true
  | .andDpLong _ => true
  | .plp => true
  | .andImm imm => imm.fits m8
  | .rolA => true
  | .pld => true
  | .bitAbs _ => true
  | .andAbs _ => true
  | .rolAbs _ => true
  | .andLong _ => true
  | .bmi _ => true
  | .andDpIndY _ => true
  | .andDpInd _ => true
  | .andSrIndY _ => true
  | .bitDpX _ => true
  | .andDpX _ => true
  | .rolDpX _ => true
  | .andDpLongY _ => true
  | .sec => true
  | .andAbsY _ => true
  | .decA => true
  | .tsc => true
  | .bitAbsX _ => true
  | .andAbsX _ => true
  | .rolAbsX _ => true
  | .andLongX _ => true
  | .rti => true
  | .eorDpXInd _ => true
  | .wdm _ => true
  | .eorSr _ => true
  | .mvp _ _ => true
  | .eorDp _ => true
  | .lsrDp _ => true
  | .eorDpLong _ => true
  | .pha => true
  | .eorImm imm => imm.fits m8
  | .lsrA => true
  | .phk => true
  | .jmpAbs _ => true
  | .eorAbs _ => true
  | .lsrAbs _ => true
  | .eorLong _ => true
  | .bvc _ => true
  | .eorDpIndY _ => true
  | .eorDpInd _ => true
  | .eorSrIndY _ => true
  | .mvn _ _ => true
  | .eorDpX _ => true
  | .lsrDpX _ => true
  | .eorDpLongY _ => true
  | .cli => true
  | .eorAbsY _ => true
  | .phy => true
  | .tcd => true
  | .jmlLong _ => true
  | .eorAbsX _ => true
  | .lsrAbsX _ => true
  | .eorLongX _ => true
  | .rts => true
  | .adcDpXInd _ => true
  | .per _ => true
  | .adcSr _ => true
  | .stzDp _ => true
  | .adcDp _ => true
  | .rorDp _ => true
  | .adcDpLong _ => true
  | .pla => true
  | .adcImm imm => imm.fits m8
  | .rorA => true
  | .rtl => true
  | .jmpInd _ => true
  | .adcAbs _ => true
  | .rorAbs _ => true
  | .adcLong _ => true
  | .bvs _ => true
  | .adcDpIndY _ => true
  | .adcDpInd _ => true
  | .adcSrIndY _ => true
  | .stzDpX _ => true
  | .adcDpX _ => true
  | .rorDpX _ => true
  | .adcDpLongY _ => true
  | .sei => true
  | .adcAbsY _ => true
  | .ply => true
  | .tdc => true
  | .jmpXInd _ => true
  | .adcAbsX _ => true
  | .rorAbsX _ => true
  | .adcLongX _ => true
  | .bra _ => true
  | .staDpXInd _ => true
  | .brl _ => true
  | .staSr _ => true
  | .styDp _ => true
  | .staDp _ => true
  | .stxDp _ => true
  | .staDpLong _ => true
  | .dey => true
  | .bitImm imm => imm.fits m8
  | .txa => true
  | .phb => true
  | .styAbs _ => true
  | .staAbs _ => true
  | .stxAbs _ => true
  | .staLong _ => true
  | .bcc _ => true
  | .staDpIndY _ => true
  | .staDpInd _ => true
  | .staSrIndY _ => true
  | .styDpX _ => true
  | .staDpX _ => true
  | .stxDpY _ => true
  | .staDpLongY _ => true
  | .tya => true
  | .staAbsY _ => true
  | .txs => true
  | .txy => true
  | .stzAbs _ => true
  | .staAbsX _ => true
  | .stzAbsX _ => true
  | .staLongX _ => true
  | .ldyImm imm => imm.fits x8
  | .ldaDpXInd _ => true
  | .ldxImm imm => imm.fits x8
  | .ldaSr _ => true
  | .ldyDp _ => true
  | .ldaDp _ => true
  | .ldxDp _ => true
  | .ldaDpLong _ => true
  | .tay => true
  | .ldaImm imm => imm.fits m8
  | .tax => true
  | .plb => true
  | .ldyAbs _ => true
  | .ldaAbs _ => true
  | .ldxAbs _ => true
  | .ldaLong _ => true
  | .bcs _ => true
  | .ldaDpIndY _ => true
  | .ldaDpInd _ => true
  | .ldaSrIndY _ => true
  | .ldyDpX _ => true
  | .ldaDpX _ => true
  | .ldxDpY _ => true
  | .ldaDpLongY _ => true
  | .clv => true
  | .ldaAbsY _ => true
  | .tsx => true
  | .tyx => true
  | .ldyAbsX _ => true
  | .ldaAbsX _ => true
  | .ldxAbsY _ => true
  | .ldaLongX _ => true
  | .cpyImm imm => imm.fits x8
  | .cmpDpXInd _ => true
  | .rep _ => true
  | .cmpSr _ => true
  | .cpyDp _ => true
  | .cmpDp _ => true
  | .decDp _ => true
  | .cmpDpLong _ => true
  | .iny => true
  | .cmpImm imm => imm.fits m8
  | .dex => true
  | .wai => true
  | .cpyAbs _ => true
  | .cmpAbs _ => true
  | .decAbs _ => true
  | .cmpLong _ => true
  | .bne _ => true
  | .cmpDpIndY _ => true
  | .cmpDpInd _ => true
  | .cmpSrIndY _ => true
  | .pei _ => true
  | .cmpDpX _ => true
  | .decDpX _ => true
  | .cmpDpLongY _ => true
  | .cld => true
  | .cmpAbsY _ => true
  | .phx => true
  | .stp => true
  | .jmlIndLong _ => true
  | .cmpAbsX _ => true
  | .decAbsX _ => true
  | .cmpLongX _ => true
  | .cpxImm imm => imm.fits x8
  | .sbcDpXInd _ => true
  | .sep _ => true
  | .sbcSr _ => true
  | .cpxDp _ => true
  | .sbcDp _ => true
  | .incDp _ => true
  | .sbcDpLong _ => true
  | .inx => true
  | .sbcImm imm => imm.fits m8
  | .nop => true
  | .xba => true
  | .cpxAbs _ => true
  | .sbcAbs _ => true
  | .incAbs _ => true
  | .sbcLong _ => true
  | .beq _ => true
  | .sbcDpIndY _ => true
  | .sbcDpInd _ => true
  | .sbcSrIndY _ => true
  | .pea _ => true
  | .sbcDpX _ => true
  | .incDpX _ => true
  | .sbcDpLongY _ => true
  | .sed => true
  | .sbcAbsY _ => true
  | .plx => true
  | .xce => true
  | .jsrXInd _ => true
  | .sbcAbsX _ => true
  | .incAbsX _ => true
  | .sbcLongX _ => true

end Sys2Proof
end

