-- ==== Sys2Proof/Decode.lean ====
section
/-! DEFINITION. Decoding and encoding (30_encoding.md): the opcode map as sixteen rows of sixteen opcodes (R101), the
instruction an opcode and the bytes after it stand for (R90 to R96), formats and lengths (R97, R98), the decoder on a
list of bytes, and the encoder. Every opcode value decodes (R100); a list of bytes that ends within an instruction is
rejected by name. -/

namespace Sys2Proof

open Machine

/-- The instruction formats (R91). -/
inductive Format where
  | op | opB | opW | opL | opIm | opIx | opBb
  deriving DecidableEq, Repr

/-- The number of operand bytes of a format under the width flags (R91, R97). -/
def Format.operands (m8 x8 : Bool) : Format → Nat
  | .op => 0
  | .opB => 1
  | .opW => 2
  | .opL => 3
  | .opIm => if m8 then 1 else 2
  | .opIx => if x8 then 1 else 2
  | .opBb => 2

/-- The immediate operand made of the bytes after the opcode (R92). -/
def immOf (w8 : Bool) (b1 b2 : Byte) : Imm := if w8 then .b8 b1 else .b16 (word b2 b1)

/-- `{b3, b2, b1}` (R94). -/
def longOf (b1 b2 b3 : Byte) : Addr := addr b3 (word b2 b1)

/-- Row 0 of the opcode map (R101). -/
def decodeRow0 (m8 _x8 : Bool) (lo : Nat) (b1 b2 b3 : Byte) : Instr :=
  match lo with
  | 0x0 => .brk b1
  | 0x1 => .oraDpXInd b1
  | 0x2 => .cop b1
  | 0x3 => .oraSr b1
  | 0x4 => .tsbDp b1
  | 0x5 => .oraDp b1
  | 0x6 => .aslDp b1
  | 0x7 => .oraDpLong b1
  | 0x8 => .php
  | 0x9 => .oraImm (immOf m8 b1 b2)
  | 0xA => .aslA
  | 0xB => .phd
  | 0xC => .tsbAbs (word b2 b1)
  | 0xD => .oraAbs (word b2 b1)
  | 0xE => .aslAbs (word b2 b1)
  | _ => .oraLong (longOf b1 b2 b3)

/-- Row 1 of the opcode map (R101). -/
def decodeRow1 (_m8 _x8 : Bool) (lo : Nat) (b1 b2 b3 : Byte) : Instr :=
  match lo with
  | 0x0 => .bpl b1
  | 0x1 => .oraDpIndY b1
  | 0x2 => .oraDpInd b1
  | 0x3 => .oraSrIndY b1
  | 0x4 => .trbDp b1
  | 0x5 => .oraDpX b1
  | 0x6 => .aslDpX b1
  | 0x7 => .oraDpLongY b1
  | 0x8 => .clc
  | 0x9 => .oraAbsY (word b2 b1)
  | 0xA => .incA
  | 0xB => .tcs
  | 0xC => .trbAbs (word b2 b1)
  | 0xD => .oraAbsX (word b2 b1)
  | 0xE => .aslAbsX (word b2 b1)
  | _ => .oraLongX (longOf b1 b2 b3)

/-- Row 2 of the opcode map (R101). -/
def decodeRow2 (m8 _x8 : Bool) (lo : Nat) (b1 b2 b3 : Byte) : Instr :=
  match lo with
  | 0x0 => .jsrAbs (word b2 b1)
  | 0x1 => .andDpXInd b1
  | 0x2 => .jsl (longOf b1 b2 b3)
  | 0x3 => .andSr b1
  | 0x4 => .bitDp b1
  | 0x5 => .andDp b1
  | 0x6 => .rolDp b1
  | 0x7 => .andDpLong b1
  | 0x8 => .plp
  | 0x9 => .andImm (immOf m8 b1 b2)
  | 0xA => .rolA
  | 0xB => .pld
  | 0xC => .bitAbs (word b2 b1)
  | 0xD => .andAbs (word b2 b1)
  | 0xE => .rolAbs (word b2 b1)
  | _ => .andLong (longOf b1 b2 b3)

/-- Row 3 of the opcode map (R101). -/
def decodeRow3 (_m8 _x8 : Bool) (lo : Nat) (b1 b2 b3 : Byte) : Instr :=
  match lo with
  | 0x0 => .bmi b1
  | 0x1 => .andDpIndY b1
  | 0x2 => .andDpInd b1
  | 0x3 => .andSrIndY b1
  | 0x4 => .bitDpX b1
  | 0x5 => .andDpX b1
  | 0x6 => .rolDpX b1
  | 0x7 => .andDpLongY b1
  | 0x8 => .sec
  | 0x9 => .andAbsY (word b2 b1)
  | 0xA => .decA
  | 0xB => .tsc
  | 0xC => .bitAbsX (word b2 b1)
  | 0xD => .andAbsX (word b2 b1)
  | 0xE => .rolAbsX (word b2 b1)
  | _ => .andLongX (longOf b1 b2 b3)

/-- Row 4 of the opcode map (R101). -/
def decodeRow4 (m8 _x8 : Bool) (lo : Nat) (b1 b2 b3 : Byte) : Instr :=
  match lo with
  | 0x0 => .rti
  | 0x1 => .eorDpXInd b1
  | 0x2 => .wdm b1
  | 0x3 => .eorSr b1
  | 0x4 => .mvp b1 b2
  | 0x5 => .eorDp b1
  | 0x6 => .lsrDp b1
  | 0x7 => .eorDpLong b1
  | 0x8 => .pha
  | 0x9 => .eorImm (immOf m8 b1 b2)
  | 0xA => .lsrA
  | 0xB => .phk
  | 0xC => .jmpAbs (word b2 b1)
  | 0xD => .eorAbs (word b2 b1)
  | 0xE => .lsrAbs (word b2 b1)
  | _ => .eorLong (longOf b1 b2 b3)

/-- Row 5 of the opcode map (R101). -/
def decodeRow5 (_m8 _x8 : Bool) (lo : Nat) (b1 b2 b3 : Byte) : Instr :=
  match lo with
  | 0x0 => .bvc b1
  | 0x1 => .eorDpIndY b1
  | 0x2 => .eorDpInd b1
  | 0x3 => .eorSrIndY b1
  | 0x4 => .mvn b1 b2
  | 0x5 => .eorDpX b1
  | 0x6 => .lsrDpX b1
  | 0x7 => .eorDpLongY b1
  | 0x8 => .cli
  | 0x9 => .eorAbsY (word b2 b1)
  | 0xA => .phy
  | 0xB => .tcd
  | 0xC => .jmlLong (longOf b1 b2 b3)
  | 0xD => .eorAbsX (word b2 b1)
  | 0xE => .lsrAbsX (word b2 b1)
  | _ => .eorLongX (longOf b1 b2 b3)

/-- Row 6 of the opcode map (R101). -/
def decodeRow6 (m8 _x8 : Bool) (lo : Nat) (b1 b2 b3 : Byte) : Instr :=
  match lo with
  | 0x0 => .rts
  | 0x1 => .adcDpXInd b1
  | 0x2 => .per (word b2 b1)
  | 0x3 => .adcSr b1
  | 0x4 => .stzDp b1
  | 0x5 => .adcDp b1
  | 0x6 => .rorDp b1
  | 0x7 => .adcDpLong b1
  | 0x8 => .pla
  | 0x9 => .adcImm (immOf m8 b1 b2)
  | 0xA => .rorA
  | 0xB => .rtl
  | 0xC => .jmpInd (word b2 b1)
  | 0xD => .adcAbs (word b2 b1)
  | 0xE => .rorAbs (word b2 b1)
  | _ => .adcLong (longOf b1 b2 b3)

/-- Row 7 of the opcode map (R101). -/
def decodeRow7 (_m8 _x8 : Bool) (lo : Nat) (b1 b2 b3 : Byte) : Instr :=
  match lo with
  | 0x0 => .bvs b1
  | 0x1 => .adcDpIndY b1
  | 0x2 => .adcDpInd b1
  | 0x3 => .adcSrIndY b1
  | 0x4 => .stzDpX b1
  | 0x5 => .adcDpX b1
  | 0x6 => .rorDpX b1
  | 0x7 => .adcDpLongY b1
  | 0x8 => .sei
  | 0x9 => .adcAbsY (word b2 b1)
  | 0xA => .ply
  | 0xB => .tdc
  | 0xC => .jmpXInd (word b2 b1)
  | 0xD => .adcAbsX (word b2 b1)
  | 0xE => .rorAbsX (word b2 b1)
  | _ => .adcLongX (longOf b1 b2 b3)

/-- Row 8 of the opcode map (R101). -/
def decodeRow8 (m8 _x8 : Bool) (lo : Nat) (b1 b2 b3 : Byte) : Instr :=
  match lo with
  | 0x0 => .bra b1
  | 0x1 => .staDpXInd b1
  | 0x2 => .brl (word b2 b1)
  | 0x3 => .staSr b1
  | 0x4 => .styDp b1
  | 0x5 => .staDp b1
  | 0x6 => .stxDp b1
  | 0x7 => .staDpLong b1
  | 0x8 => .dey
  | 0x9 => .bitImm (immOf m8 b1 b2)
  | 0xA => .txa
  | 0xB => .phb
  | 0xC => .styAbs (word b2 b1)
  | 0xD => .staAbs (word b2 b1)
  | 0xE => .stxAbs (word b2 b1)
  | _ => .staLong (longOf b1 b2 b3)

/-- Row 9 of the opcode map (R101). -/
def decodeRow9 (_m8 _x8 : Bool) (lo : Nat) (b1 b2 b3 : Byte) : Instr :=
  match lo with
  | 0x0 => .bcc b1
  | 0x1 => .staDpIndY b1
  | 0x2 => .staDpInd b1
  | 0x3 => .staSrIndY b1
  | 0x4 => .styDpX b1
  | 0x5 => .staDpX b1
  | 0x6 => .stxDpY b1
  | 0x7 => .staDpLongY b1
  | 0x8 => .tya
  | 0x9 => .staAbsY (word b2 b1)
  | 0xA => .txs
  | 0xB => .txy
  | 0xC => .stzAbs (word b2 b1)
  | 0xD => .staAbsX (word b2 b1)
  | 0xE => .stzAbsX (word b2 b1)
  | _ => .staLongX (longOf b1 b2 b3)

/-- Row A of the opcode map (R101). -/
def decodeRowA (m8 x8 : Bool) (lo : Nat) (b1 b2 b3 : Byte) : Instr :=
  match lo with
  | 0x0 => .ldyImm (immOf x8 b1 b2)
  | 0x1 => .ldaDpXInd b1
  | 0x2 => .ldxImm (immOf x8 b1 b2)
  | 0x3 => .ldaSr b1
  | 0x4 => .ldyDp b1
  | 0x5 => .ldaDp b1
  | 0x6 => .ldxDp b1
  | 0x7 => .ldaDpLong b1
  | 0x8 => .tay
  | 0x9 => .ldaImm (immOf m8 b1 b2)
  | 0xA => .tax
  | 0xB => .plb
  | 0xC => .ldyAbs (word b2 b1)
  | 0xD => .ldaAbs (word b2 b1)
  | 0xE => .ldxAbs (word b2 b1)
  | _ => .ldaLong (longOf b1 b2 b3)

/-- Row B of the opcode map (R101). -/
def decodeRowB (_m8 _x8 : Bool) (lo : Nat) (b1 b2 b3 : Byte) : Instr :=
  match lo with
  | 0x0 => .bcs b1
  | 0x1 => .ldaDpIndY b1
  | 0x2 => .ldaDpInd b1
  | 0x3 => .ldaSrIndY b1
  | 0x4 => .ldyDpX b1
  | 0x5 => .ldaDpX b1
  | 0x6 => .ldxDpY b1
  | 0x7 => .ldaDpLongY b1
  | 0x8 => .clv
  | 0x9 => .ldaAbsY (word b2 b1)
  | 0xA => .tsx
  | 0xB => .tyx
  | 0xC => .ldyAbsX (word b2 b1)
  | 0xD => .ldaAbsX (word b2 b1)
  | 0xE => .ldxAbsY (word b2 b1)
  | _ => .ldaLongX (longOf b1 b2 b3)

/-- Row C of the opcode map (R101). -/
def decodeRowC (m8 x8 : Bool) (lo : Nat) (b1 b2 b3 : Byte) : Instr :=
  match lo with
  | 0x0 => .cpyImm (immOf x8 b1 b2)
  | 0x1 => .cmpDpXInd b1
  | 0x2 => .rep b1
  | 0x3 => .cmpSr b1
  | 0x4 => .cpyDp b1
  | 0x5 => .cmpDp b1
  | 0x6 => .decDp b1
  | 0x7 => .cmpDpLong b1
  | 0x8 => .iny
  | 0x9 => .cmpImm (immOf m8 b1 b2)
  | 0xA => .dex
  | 0xB => .wai
  | 0xC => .cpyAbs (word b2 b1)
  | 0xD => .cmpAbs (word b2 b1)
  | 0xE => .decAbs (word b2 b1)
  | _ => .cmpLong (longOf b1 b2 b3)

/-- Row D of the opcode map (R101). -/
def decodeRowD (_m8 _x8 : Bool) (lo : Nat) (b1 b2 b3 : Byte) : Instr :=
  match lo with
  | 0x0 => .bne b1
  | 0x1 => .cmpDpIndY b1
  | 0x2 => .cmpDpInd b1
  | 0x3 => .cmpSrIndY b1
  | 0x4 => .pei b1
  | 0x5 => .cmpDpX b1
  | 0x6 => .decDpX b1
  | 0x7 => .cmpDpLongY b1
  | 0x8 => .cld
  | 0x9 => .cmpAbsY (word b2 b1)
  | 0xA => .phx
  | 0xB => .stp
  | 0xC => .jmlIndLong (word b2 b1)
  | 0xD => .cmpAbsX (word b2 b1)
  | 0xE => .decAbsX (word b2 b1)
  | _ => .cmpLongX (longOf b1 b2 b3)

/-- Row E of the opcode map (R101). -/
def decodeRowE (m8 x8 : Bool) (lo : Nat) (b1 b2 b3 : Byte) : Instr :=
  match lo with
  | 0x0 => .cpxImm (immOf x8 b1 b2)
  | 0x1 => .sbcDpXInd b1
  | 0x2 => .sep b1
  | 0x3 => .sbcSr b1
  | 0x4 => .cpxDp b1
  | 0x5 => .sbcDp b1
  | 0x6 => .incDp b1
  | 0x7 => .sbcDpLong b1
  | 0x8 => .inx
  | 0x9 => .sbcImm (immOf m8 b1 b2)
  | 0xA => .nop
  | 0xB => .xba
  | 0xC => .cpxAbs (word b2 b1)
  | 0xD => .sbcAbs (word b2 b1)
  | 0xE => .incAbs (word b2 b1)
  | _ => .sbcLong (longOf b1 b2 b3)

/-- Row F of the opcode map (R101). -/
def decodeRowF (_m8 _x8 : Bool) (lo : Nat) (b1 b2 b3 : Byte) : Instr :=
  match lo with
  | 0x0 => .beq b1
  | 0x1 => .sbcDpIndY b1
  | 0x2 => .sbcDpInd b1
  | 0x3 => .sbcSrIndY b1
  | 0x4 => .pea (word b2 b1)
  | 0x5 => .sbcDpX b1
  | 0x6 => .incDpX b1
  | 0x7 => .sbcDpLongY b1
  | 0x8 => .sed
  | 0x9 => .sbcAbsY (word b2 b1)
  | 0xA => .plx
  | 0xB => .xce
  | 0xC => .jsrXInd (word b2 b1)
  | 0xD => .sbcAbsX (word b2 b1)
  | 0xE => .incAbsX (word b2 b1)
  | _ => .sbcLongX (longOf b1 b2 b3)

/-- The instruction of an opcode and the three bytes after it, of which its format uses the first few (R90, R100): the
row of the opcode map by the high nibble, the column by the low nibble. -/
def decodeOp (m8 x8 : Bool) (op b1 b2 b3 : Byte) : Instr :=
  let lo := op.toNat % 16
  match op.toNat / 16 with
  | 0x0 => decodeRow0 m8 x8 lo b1 b2 b3
  | 0x1 => decodeRow1 m8 x8 lo b1 b2 b3
  | 0x2 => decodeRow2 m8 x8 lo b1 b2 b3
  | 0x3 => decodeRow3 m8 x8 lo b1 b2 b3
  | 0x4 => decodeRow4 m8 x8 lo b1 b2 b3
  | 0x5 => decodeRow5 m8 x8 lo b1 b2 b3
  | 0x6 => decodeRow6 m8 x8 lo b1 b2 b3
  | 0x7 => decodeRow7 m8 x8 lo b1 b2 b3
  | 0x8 => decodeRow8 m8 x8 lo b1 b2 b3
  | 0x9 => decodeRow9 m8 x8 lo b1 b2 b3
  | 0xA => decodeRowA m8 x8 lo b1 b2 b3
  | 0xB => decodeRowB m8 x8 lo b1 b2 b3
  | 0xC => decodeRowC m8 x8 lo b1 b2 b3
  | 0xD => decodeRowD m8 x8 lo b1 b2 b3
  | 0xE => decodeRowE m8 x8 lo b1 b2 b3
  | _ => decodeRowF m8 x8 lo b1 b2 b3

/-- The opcode byte of an instruction (R101). -/
def Instr.opcode : Instr → Byte
  | .brk _ => 0x00#8
  | .oraDpXInd _ => 0x01#8
  | .cop _ => 0x02#8
  | .oraSr _ => 0x03#8
  | .tsbDp _ => 0x04#8
  | .oraDp _ => 0x05#8
  | .aslDp _ => 0x06#8
  | .oraDpLong _ => 0x07#8
  | .php => 0x08#8
  | .oraImm _ => 0x09#8
  | .aslA => 0x0A#8
  | .phd => 0x0B#8
  | .tsbAbs _ => 0x0C#8
  | .oraAbs _ => 0x0D#8
  | .aslAbs _ => 0x0E#8
  | .oraLong _ => 0x0F#8
  | .bpl _ => 0x10#8
  | .oraDpIndY _ => 0x11#8
  | .oraDpInd _ => 0x12#8
  | .oraSrIndY _ => 0x13#8
  | .trbDp _ => 0x14#8
  | .oraDpX _ => 0x15#8
  | .aslDpX _ => 0x16#8
  | .oraDpLongY _ => 0x17#8
  | .clc => 0x18#8
  | .oraAbsY _ => 0x19#8
  | .incA => 0x1A#8
  | .tcs => 0x1B#8
  | .trbAbs _ => 0x1C#8
  | .oraAbsX _ => 0x1D#8
  | .aslAbsX _ => 0x1E#8
  | .oraLongX _ => 0x1F#8
  | .jsrAbs _ => 0x20#8
  | .andDpXInd _ => 0x21#8
  | .jsl _ => 0x22#8
  | .andSr _ => 0x23#8
  | .bitDp _ => 0x24#8
  | .andDp _ => 0x25#8
  | .rolDp _ => 0x26#8
  | .andDpLong _ => 0x27#8
  | .plp => 0x28#8
  | .andImm _ => 0x29#8
  | .rolA => 0x2A#8
  | .pld => 0x2B#8
  | .bitAbs _ => 0x2C#8
  | .andAbs _ => 0x2D#8
  | .rolAbs _ => 0x2E#8
  | .andLong _ => 0x2F#8
  | .bmi _ => 0x30#8
  | .andDpIndY _ => 0x31#8
  | .andDpInd _ => 0x32#8
  | .andSrIndY _ => 0x33#8
  | .bitDpX _ => 0x34#8
  | .andDpX _ => 0x35#8
  | .rolDpX _ => 0x36#8
  | .andDpLongY _ => 0x37#8
  | .sec => 0x38#8
  | .andAbsY _ => 0x39#8
  | .decA => 0x3A#8
  | .tsc => 0x3B#8
  | .bitAbsX _ => 0x3C#8
  | .andAbsX _ => 0x3D#8
  | .rolAbsX _ => 0x3E#8
  | .andLongX _ => 0x3F#8
  | .rti => 0x40#8
  | .eorDpXInd _ => 0x41#8
  | .wdm _ => 0x42#8
  | .eorSr _ => 0x43#8
  | .mvp _ _ => 0x44#8
  | .eorDp _ => 0x45#8
  | .lsrDp _ => 0x46#8
  | .eorDpLong _ => 0x47#8
  | .pha => 0x48#8
  | .eorImm _ => 0x49#8
  | .lsrA => 0x4A#8
  | .phk => 0x4B#8
  | .jmpAbs _ => 0x4C#8
  | .eorAbs _ => 0x4D#8
  | .lsrAbs _ => 0x4E#8
  | .eorLong _ => 0x4F#8
  | .bvc _ => 0x50#8
  | .eorDpIndY _ => 0x51#8
  | .eorDpInd _ => 0x52#8
  | .eorSrIndY _ => 0x53#8
  | .mvn _ _ => 0x54#8
  | .eorDpX _ => 0x55#8
  | .lsrDpX _ => 0x56#8
  | .eorDpLongY _ => 0x57#8
  | .cli => 0x58#8
  | .eorAbsY _ => 0x59#8
  | .phy => 0x5A#8
  | .tcd => 0x5B#8
  | .jmlLong _ => 0x5C#8
  | .eorAbsX _ => 0x5D#8
  | .lsrAbsX _ => 0x5E#8
  | .eorLongX _ => 0x5F#8
  | .rts => 0x60#8
  | .adcDpXInd _ => 0x61#8
  | .per _ => 0x62#8
  | .adcSr _ => 0x63#8
  | .stzDp _ => 0x64#8
  | .adcDp _ => 0x65#8
  | .rorDp _ => 0x66#8
  | .adcDpLong _ => 0x67#8
  | .pla => 0x68#8
  | .adcImm _ => 0x69#8
  | .rorA => 0x6A#8
  | .rtl => 0x6B#8
  | .jmpInd _ => 0x6C#8
  | .adcAbs _ => 0x6D#8
  | .rorAbs _ => 0x6E#8
  | .adcLong _ => 0x6F#8
  | .bvs _ => 0x70#8
  | .adcDpIndY _ => 0x71#8
  | .adcDpInd _ => 0x72#8
  | .adcSrIndY _ => 0x73#8
  | .stzDpX _ => 0x74#8
  | .adcDpX _ => 0x75#8
  | .rorDpX _ => 0x76#8
  | .adcDpLongY _ => 0x77#8
  | .sei => 0x78#8
  | .adcAbsY _ => 0x79#8
  | .ply => 0x7A#8
  | .tdc => 0x7B#8
  | .jmpXInd _ => 0x7C#8
  | .adcAbsX _ => 0x7D#8
  | .rorAbsX _ => 0x7E#8
  | .adcLongX _ => 0x7F#8
  | .bra _ => 0x80#8
  | .staDpXInd _ => 0x81#8
  | .brl _ => 0x82#8
  | .staSr _ => 0x83#8
  | .styDp _ => 0x84#8
  | .staDp _ => 0x85#8
  | .stxDp _ => 0x86#8
  | .staDpLong _ => 0x87#8
  | .dey => 0x88#8
  | .bitImm _ => 0x89#8
  | .txa => 0x8A#8
  | .phb => 0x8B#8
  | .styAbs _ => 0x8C#8
  | .staAbs _ => 0x8D#8
  | .stxAbs _ => 0x8E#8
  | .staLong _ => 0x8F#8
  | .bcc _ => 0x90#8
  | .staDpIndY _ => 0x91#8
  | .staDpInd _ => 0x92#8
  | .staSrIndY _ => 0x93#8
  | .styDpX _ => 0x94#8
  | .staDpX _ => 0x95#8
  | .stxDpY _ => 0x96#8
  | .staDpLongY _ => 0x97#8
  | .tya => 0x98#8
  | .staAbsY _ => 0x99#8
  | .txs => 0x9A#8
  | .txy => 0x9B#8
  | .stzAbs _ => 0x9C#8
  | .staAbsX _ => 0x9D#8
  | .stzAbsX _ => 0x9E#8
  | .staLongX _ => 0x9F#8
  | .ldyImm _ => 0xA0#8
  | .ldaDpXInd _ => 0xA1#8
  | .ldxImm _ => 0xA2#8
  | .ldaSr _ => 0xA3#8
  | .ldyDp _ => 0xA4#8
  | .ldaDp _ => 0xA5#8
  | .ldxDp _ => 0xA6#8
  | .ldaDpLong _ => 0xA7#8
  | .tay => 0xA8#8
  | .ldaImm _ => 0xA9#8
  | .tax => 0xAA#8
  | .plb => 0xAB#8
  | .ldyAbs _ => 0xAC#8
  | .ldaAbs _ => 0xAD#8
  | .ldxAbs _ => 0xAE#8
  | .ldaLong _ => 0xAF#8
  | .bcs _ => 0xB0#8
  | .ldaDpIndY _ => 0xB1#8
  | .ldaDpInd _ => 0xB2#8
  | .ldaSrIndY _ => 0xB3#8
  | .ldyDpX _ => 0xB4#8
  | .ldaDpX _ => 0xB5#8
  | .ldxDpY _ => 0xB6#8
  | .ldaDpLongY _ => 0xB7#8
  | .clv => 0xB8#8
  | .ldaAbsY _ => 0xB9#8
  | .tsx => 0xBA#8
  | .tyx => 0xBB#8
  | .ldyAbsX _ => 0xBC#8
  | .ldaAbsX _ => 0xBD#8
  | .ldxAbsY _ => 0xBE#8
  | .ldaLongX _ => 0xBF#8
  | .cpyImm _ => 0xC0#8
  | .cmpDpXInd _ => 0xC1#8
  | .rep _ => 0xC2#8
  | .cmpSr _ => 0xC3#8
  | .cpyDp _ => 0xC4#8
  | .cmpDp _ => 0xC5#8
  | .decDp _ => 0xC6#8
  | .cmpDpLong _ => 0xC7#8
  | .iny => 0xC8#8
  | .cmpImm _ => 0xC9#8
  | .dex => 0xCA#8
  | .wai => 0xCB#8
  | .cpyAbs _ => 0xCC#8
  | .cmpAbs _ => 0xCD#8
  | .decAbs _ => 0xCE#8
  | .cmpLong _ => 0xCF#8
  | .bne _ => 0xD0#8
  | .cmpDpIndY _ => 0xD1#8
  | .cmpDpInd _ => 0xD2#8
  | .cmpSrIndY _ => 0xD3#8
  | .pei _ => 0xD4#8
  | .cmpDpX _ => 0xD5#8
  | .decDpX _ => 0xD6#8
  | .cmpDpLongY _ => 0xD7#8
  | .cld => 0xD8#8
  | .cmpAbsY _ => 0xD9#8
  | .phx => 0xDA#8
  | .stp => 0xDB#8
  | .jmlIndLong _ => 0xDC#8
  | .cmpAbsX _ => 0xDD#8
  | .decAbsX _ => 0xDE#8
  | .cmpLongX _ => 0xDF#8
  | .cpxImm _ => 0xE0#8
  | .sbcDpXInd _ => 0xE1#8
  | .sep _ => 0xE2#8
  | .sbcSr _ => 0xE3#8
  | .cpxDp _ => 0xE4#8
  | .sbcDp _ => 0xE5#8
  | .incDp _ => 0xE6#8
  | .sbcDpLong _ => 0xE7#8
  | .inx => 0xE8#8
  | .sbcImm _ => 0xE9#8
  | .nop => 0xEA#8
  | .xba => 0xEB#8
  | .cpxAbs _ => 0xEC#8
  | .sbcAbs _ => 0xED#8
  | .incAbs _ => 0xEE#8
  | .sbcLong _ => 0xEF#8
  | .beq _ => 0xF0#8
  | .sbcDpIndY _ => 0xF1#8
  | .sbcDpInd _ => 0xF2#8
  | .sbcSrIndY _ => 0xF3#8
  | .pea _ => 0xF4#8
  | .sbcDpX _ => 0xF5#8
  | .incDpX _ => 0xF6#8
  | .sbcDpLongY _ => 0xF7#8
  | .sed => 0xF8#8
  | .sbcAbsY _ => 0xF9#8
  | .plx => 0xFA#8
  | .xce => 0xFB#8
  | .jsrXInd _ => 0xFC#8
  | .sbcAbsX _ => 0xFD#8
  | .incAbsX _ => 0xFE#8
  | .sbcLongX _ => 0xFF#8

/-- The format of an instruction (R98, R102). -/
def Instr.format : Instr → Format
  | .brk _ => .opB
  | .oraDpXInd _ => .opB
  | .cop _ => .opB
  | .oraSr _ => .opB
  | .tsbDp _ => .opB
  | .oraDp _ => .opB
  | .aslDp _ => .opB
  | .oraDpLong _ => .opB
  | .php => .op
  | .oraImm _ => .opIm
  | .aslA => .op
  | .phd => .op
  | .tsbAbs _ => .opW
  | .oraAbs _ => .opW
  | .aslAbs _ => .opW
  | .oraLong _ => .opL
  | .bpl _ => .opB
  | .oraDpIndY _ => .opB
  | .oraDpInd _ => .opB
  | .oraSrIndY _ => .opB
  | .trbDp _ => .opB
  | .oraDpX _ => .opB
  | .aslDpX _ => .opB
  | .oraDpLongY _ => .opB
  | .clc => .op
  | .oraAbsY _ => .opW
  | .incA => .op
  | .tcs => .op
  | .trbAbs _ => .opW
  | .oraAbsX _ => .opW
  | .aslAbsX _ => .opW
  | .oraLongX _ => .opL
  | .jsrAbs _ => .opW
  | .andDpXInd _ => .opB
  | .jsl _ => .opL
  | .andSr _ => .opB
  | .bitDp _ => .opB
  | .andDp _ => .opB
  | .rolDp _ => .opB
  | .andDpLong _ => .opB
  | .plp => .op
  | .andImm _ => .opIm
  | .rolA => .op
  | .pld => .op
  | .bitAbs _ => .opW
  | .andAbs _ => .opW
  | .rolAbs _ => .opW
  | .andLong _ => .opL
  | .bmi _ => .opB
  | .andDpIndY _ => .opB
  | .andDpInd _ => .opB
  | .andSrIndY _ => .opB
  | .bitDpX _ => .opB
  | .andDpX _ => .opB
  | .rolDpX _ => .opB
  | .andDpLongY _ => .opB
  | .sec => .op
  | .andAbsY _ => .opW
  | .decA => .op
  | .tsc => .op
  | .bitAbsX _ => .opW
  | .andAbsX _ => .opW
  | .rolAbsX _ => .opW
  | .andLongX _ => .opL
  | .rti => .op
  | .eorDpXInd _ => .opB
  | .wdm _ => .opB
  | .eorSr _ => .opB
  | .mvp _ _ => .opBb
  | .eorDp _ => .opB
  | .lsrDp _ => .opB
  | .eorDpLong _ => .opB
  | .pha => .op
  | .eorImm _ => .opIm
  | .lsrA => .op
  | .phk => .op
  | .jmpAbs _ => .opW
  | .eorAbs _ => .opW
  | .lsrAbs _ => .opW
  | .eorLong _ => .opL
  | .bvc _ => .opB
  | .eorDpIndY _ => .opB
  | .eorDpInd _ => .opB
  | .eorSrIndY _ => .opB
  | .mvn _ _ => .opBb
  | .eorDpX _ => .opB
  | .lsrDpX _ => .opB
  | .eorDpLongY _ => .opB
  | .cli => .op
  | .eorAbsY _ => .opW
  | .phy => .op
  | .tcd => .op
  | .jmlLong _ => .opL
  | .eorAbsX _ => .opW
  | .lsrAbsX _ => .opW
  | .eorLongX _ => .opL
  | .rts => .op
  | .adcDpXInd _ => .opB
  | .per _ => .opW
  | .adcSr _ => .opB
  | .stzDp _ => .opB
  | .adcDp _ => .opB
  | .rorDp _ => .opB
  | .adcDpLong _ => .opB
  | .pla => .op
  | .adcImm _ => .opIm
  | .rorA => .op
  | .rtl => .op
  | .jmpInd _ => .opW
  | .adcAbs _ => .opW
  | .rorAbs _ => .opW
  | .adcLong _ => .opL
  | .bvs _ => .opB
  | .adcDpIndY _ => .opB
  | .adcDpInd _ => .opB
  | .adcSrIndY _ => .opB
  | .stzDpX _ => .opB
  | .adcDpX _ => .opB
  | .rorDpX _ => .opB
  | .adcDpLongY _ => .opB
  | .sei => .op
  | .adcAbsY _ => .opW
  | .ply => .op
  | .tdc => .op
  | .jmpXInd _ => .opW
  | .adcAbsX _ => .opW
  | .rorAbsX _ => .opW
  | .adcLongX _ => .opL
  | .bra _ => .opB
  | .staDpXInd _ => .opB
  | .brl _ => .opW
  | .staSr _ => .opB
  | .styDp _ => .opB
  | .staDp _ => .opB
  | .stxDp _ => .opB
  | .staDpLong _ => .opB
  | .dey => .op
  | .bitImm _ => .opIm
  | .txa => .op
  | .phb => .op
  | .styAbs _ => .opW
  | .staAbs _ => .opW
  | .stxAbs _ => .opW
  | .staLong _ => .opL
  | .bcc _ => .opB
  | .staDpIndY _ => .opB
  | .staDpInd _ => .opB
  | .staSrIndY _ => .opB
  | .styDpX _ => .opB
  | .staDpX _ => .opB
  | .stxDpY _ => .opB
  | .staDpLongY _ => .opB
  | .tya => .op
  | .staAbsY _ => .opW
  | .txs => .op
  | .txy => .op
  | .stzAbs _ => .opW
  | .staAbsX _ => .opW
  | .stzAbsX _ => .opW
  | .staLongX _ => .opL
  | .ldyImm _ => .opIx
  | .ldaDpXInd _ => .opB
  | .ldxImm _ => .opIx
  | .ldaSr _ => .opB
  | .ldyDp _ => .opB
  | .ldaDp _ => .opB
  | .ldxDp _ => .opB
  | .ldaDpLong _ => .opB
  | .tay => .op
  | .ldaImm _ => .opIm
  | .tax => .op
  | .plb => .op
  | .ldyAbs _ => .opW
  | .ldaAbs _ => .opW
  | .ldxAbs _ => .opW
  | .ldaLong _ => .opL
  | .bcs _ => .opB
  | .ldaDpIndY _ => .opB
  | .ldaDpInd _ => .opB
  | .ldaSrIndY _ => .opB
  | .ldyDpX _ => .opB
  | .ldaDpX _ => .opB
  | .ldxDpY _ => .opB
  | .ldaDpLongY _ => .opB
  | .clv => .op
  | .ldaAbsY _ => .opW
  | .tsx => .op
  | .tyx => .op
  | .ldyAbsX _ => .opW
  | .ldaAbsX _ => .opW
  | .ldxAbsY _ => .opW
  | .ldaLongX _ => .opL
  | .cpyImm _ => .opIx
  | .cmpDpXInd _ => .opB
  | .rep _ => .opB
  | .cmpSr _ => .opB
  | .cpyDp _ => .opB
  | .cmpDp _ => .opB
  | .decDp _ => .opB
  | .cmpDpLong _ => .opB
  | .iny => .op
  | .cmpImm _ => .opIm
  | .dex => .op
  | .wai => .op
  | .cpyAbs _ => .opW
  | .cmpAbs _ => .opW
  | .decAbs _ => .opW
  | .cmpLong _ => .opL
  | .bne _ => .opB
  | .cmpDpIndY _ => .opB
  | .cmpDpInd _ => .opB
  | .cmpSrIndY _ => .opB
  | .pei _ => .opB
  | .cmpDpX _ => .opB
  | .decDpX _ => .opB
  | .cmpDpLongY _ => .opB
  | .cld => .op
  | .cmpAbsY _ => .opW
  | .phx => .op
  | .stp => .op
  | .jmlIndLong _ => .opW
  | .cmpAbsX _ => .opW
  | .decAbsX _ => .opW
  | .cmpLongX _ => .opL
  | .cpxImm _ => .opIx
  | .sbcDpXInd _ => .opB
  | .sep _ => .opB
  | .sbcSr _ => .opB
  | .cpxDp _ => .opB
  | .sbcDp _ => .opB
  | .incDp _ => .opB
  | .sbcDpLong _ => .opB
  | .inx => .op
  | .sbcImm _ => .opIm
  | .nop => .op
  | .xba => .op
  | .cpxAbs _ => .opW
  | .sbcAbs _ => .opW
  | .incAbs _ => .opW
  | .sbcLong _ => .opL
  | .beq _ => .opB
  | .sbcDpIndY _ => .opB
  | .sbcDpInd _ => .opB
  | .sbcSrIndY _ => .opB
  | .pea _ => .opW
  | .sbcDpX _ => .opB
  | .incDpX _ => .opB
  | .sbcDpLongY _ => .opB
  | .sed => .op
  | .sbcAbsY _ => .opW
  | .plx => .op
  | .xce => .op
  | .jsrXInd _ => .opW
  | .sbcAbsX _ => .opW
  | .incAbsX _ => .opW
  | .sbcLongX _ => .opL

/-- The operand bytes of an instruction, in the order of their addresses (R91 to R96). -/
def Instr.operandBytes : Instr → List Byte
  | .brk sig => [sig]
  | .oraDpXInd off => [off]
  | .cop sig => [sig]
  | .oraSr off => [off]
  | .tsbDp off => [off]
  | .oraDp off => [off]
  | .aslDp off => [off]
  | .oraDpLong off => [off]
  | .php => []
  | .oraImm imm => immBytes imm
  | .aslA => []
  | .phd => []
  | .tsbAbs aa => bytesW aa
  | .oraAbs aa => bytesW aa
  | .aslAbs aa => bytesW aa
  | .oraLong al => bytesL al
  | .bpl rel => [rel]
  | .oraDpIndY off => [off]
  | .oraDpInd off => [off]
  | .oraSrIndY off => [off]
  | .trbDp off => [off]
  | .oraDpX off => [off]
  | .aslDpX off => [off]
  | .oraDpLongY off => [off]
  | .clc => []
  | .oraAbsY aa => bytesW aa
  | .incA => []
  | .tcs => []
  | .trbAbs aa => bytesW aa
  | .oraAbsX aa => bytesW aa
  | .aslAbsX aa => bytesW aa
  | .oraLongX al => bytesL al
  | .jsrAbs aa => bytesW aa
  | .andDpXInd off => [off]
  | .jsl al => bytesL al
  | .andSr off => [off]
  | .bitDp off => [off]
  | .andDp off => [off]
  | .rolDp off => [off]
  | .andDpLong off => [off]
  | .plp => []
  | .andImm imm => immBytes imm
  | .rolA => []
  | .pld => []
  | .bitAbs aa => bytesW aa
  | .andAbs aa => bytesW aa
  | .rolAbs aa => bytesW aa
  | .andLong al => bytesL al
  | .bmi rel => [rel]
  | .andDpIndY off => [off]
  | .andDpInd off => [off]
  | .andSrIndY off => [off]
  | .bitDpX off => [off]
  | .andDpX off => [off]
  | .rolDpX off => [off]
  | .andDpLongY off => [off]
  | .sec => []
  | .andAbsY aa => bytesW aa
  | .decA => []
  | .tsc => []
  | .bitAbsX aa => bytesW aa
  | .andAbsX aa => bytesW aa
  | .rolAbsX aa => bytesW aa
  | .andLongX al => bytesL al
  | .rti => []
  | .eorDpXInd off => [off]
  | .wdm sig => [sig]
  | .eorSr off => [off]
  | .mvp dst src => [dst, src]
  | .eorDp off => [off]
  | .lsrDp off => [off]
  | .eorDpLong off => [off]
  | .pha => []
  | .eorImm imm => immBytes imm
  | .lsrA => []
  | .phk => []
  | .jmpAbs aa => bytesW aa
  | .eorAbs aa => bytesW aa
  | .lsrAbs aa => bytesW aa
  | .eorLong al => bytesL al
  | .bvc rel => [rel]
  | .eorDpIndY off => [off]
  | .eorDpInd off => [off]
  | .eorSrIndY off => [off]
  | .mvn dst src => [dst, src]
  | .eorDpX off => [off]
  | .lsrDpX off => [off]
  | .eorDpLongY off => [off]
  | .cli => []
  | .eorAbsY aa => bytesW aa
  | .phy => []
  | .tcd => []
  | .jmlLong al => bytesL al
  | .eorAbsX aa => bytesW aa
  | .lsrAbsX aa => bytesW aa
  | .eorLongX al => bytesL al
  | .rts => []
  | .adcDpXInd off => [off]
  | .per rel => bytesW rel
  | .adcSr off => [off]
  | .stzDp off => [off]
  | .adcDp off => [off]
  | .rorDp off => [off]
  | .adcDpLong off => [off]
  | .pla => []
  | .adcImm imm => immBytes imm
  | .rorA => []
  | .rtl => []
  | .jmpInd aa => bytesW aa
  | .adcAbs aa => bytesW aa
  | .rorAbs aa => bytesW aa
  | .adcLong al => bytesL al
  | .bvs rel => [rel]
  | .adcDpIndY off => [off]
  | .adcDpInd off => [off]
  | .adcSrIndY off => [off]
  | .stzDpX off => [off]
  | .adcDpX off => [off]
  | .rorDpX off => [off]
  | .adcDpLongY off => [off]
  | .sei => []
  | .adcAbsY aa => bytesW aa
  | .ply => []
  | .tdc => []
  | .jmpXInd aa => bytesW aa
  | .adcAbsX aa => bytesW aa
  | .rorAbsX aa => bytesW aa
  | .adcLongX al => bytesL al
  | .bra rel => [rel]
  | .staDpXInd off => [off]
  | .brl rel => bytesW rel
  | .staSr off => [off]
  | .styDp off => [off]
  | .staDp off => [off]
  | .stxDp off => [off]
  | .staDpLong off => [off]
  | .dey => []
  | .bitImm imm => immBytes imm
  | .txa => []
  | .phb => []
  | .styAbs aa => bytesW aa
  | .staAbs aa => bytesW aa
  | .stxAbs aa => bytesW aa
  | .staLong al => bytesL al
  | .bcc rel => [rel]
  | .staDpIndY off => [off]
  | .staDpInd off => [off]
  | .staSrIndY off => [off]
  | .styDpX off => [off]
  | .staDpX off => [off]
  | .stxDpY off => [off]
  | .staDpLongY off => [off]
  | .tya => []
  | .staAbsY aa => bytesW aa
  | .txs => []
  | .txy => []
  | .stzAbs aa => bytesW aa
  | .staAbsX aa => bytesW aa
  | .stzAbsX aa => bytesW aa
  | .staLongX al => bytesL al
  | .ldyImm imm => immBytes imm
  | .ldaDpXInd off => [off]
  | .ldxImm imm => immBytes imm
  | .ldaSr off => [off]
  | .ldyDp off => [off]
  | .ldaDp off => [off]
  | .ldxDp off => [off]
  | .ldaDpLong off => [off]
  | .tay => []
  | .ldaImm imm => immBytes imm
  | .tax => []
  | .plb => []
  | .ldyAbs aa => bytesW aa
  | .ldaAbs aa => bytesW aa
  | .ldxAbs aa => bytesW aa
  | .ldaLong al => bytesL al
  | .bcs rel => [rel]
  | .ldaDpIndY off => [off]
  | .ldaDpInd off => [off]
  | .ldaSrIndY off => [off]
  | .ldyDpX off => [off]
  | .ldaDpX off => [off]
  | .ldxDpY off => [off]
  | .ldaDpLongY off => [off]
  | .clv => []
  | .ldaAbsY aa => bytesW aa
  | .tsx => []
  | .tyx => []
  | .ldyAbsX aa => bytesW aa
  | .ldaAbsX aa => bytesW aa
  | .ldxAbsY aa => bytesW aa
  | .ldaLongX al => bytesL al
  | .cpyImm imm => immBytes imm
  | .cmpDpXInd off => [off]
  | .rep mask => [mask]
  | .cmpSr off => [off]
  | .cpyDp off => [off]
  | .cmpDp off => [off]
  | .decDp off => [off]
  | .cmpDpLong off => [off]
  | .iny => []
  | .cmpImm imm => immBytes imm
  | .dex => []
  | .wai => []
  | .cpyAbs aa => bytesW aa
  | .cmpAbs aa => bytesW aa
  | .decAbs aa => bytesW aa
  | .cmpLong al => bytesL al
  | .bne rel => [rel]
  | .cmpDpIndY off => [off]
  | .cmpDpInd off => [off]
  | .cmpSrIndY off => [off]
  | .pei off => [off]
  | .cmpDpX off => [off]
  | .decDpX off => [off]
  | .cmpDpLongY off => [off]
  | .cld => []
  | .cmpAbsY aa => bytesW aa
  | .phx => []
  | .stp => []
  | .jmlIndLong aa => bytesW aa
  | .cmpAbsX aa => bytesW aa
  | .decAbsX aa => bytesW aa
  | .cmpLongX al => bytesL al
  | .cpxImm imm => immBytes imm
  | .sbcDpXInd off => [off]
  | .sep mask => [mask]
  | .sbcSr off => [off]
  | .cpxDp off => [off]
  | .sbcDp off => [off]
  | .incDp off => [off]
  | .sbcDpLong off => [off]
  | .inx => []
  | .sbcImm imm => immBytes imm
  | .nop => []
  | .xba => []
  | .cpxAbs aa => bytesW aa
  | .sbcAbs aa => bytesW aa
  | .incAbs aa => bytesW aa
  | .sbcLong al => bytesL al
  | .beq rel => [rel]
  | .sbcDpIndY off => [off]
  | .sbcDpInd off => [off]
  | .sbcSrIndY off => [off]
  | .pea aa => bytesW aa
  | .sbcDpX off => [off]
  | .incDpX off => [off]
  | .sbcDpLongY off => [off]
  | .sed => []
  | .sbcAbsY aa => bytesW aa
  | .plx => []
  | .xce => []
  | .jsrXInd aa => bytesW aa
  | .sbcAbsX aa => bytesW aa
  | .incAbsX aa => bytesW aa
  | .sbcLongX al => bytesL al

/-- The format of an opcode (R98): the opcode alone selects it (R90). -/
def formatOf (op : Byte) : Format := (decodeOp true true op 0x00#8 0x00#8 0x00#8).format

/-- Why a list of bytes is no instruction. -/
inductive DecodeError where
  /-- There is no byte. -/
  | empty
  /-- The list ends before the last operand byte of the opcode. -/
  | truncated (op : Byte)
  deriving DecidableEq, Repr

/-- The instruction at the head of a list of bytes under the width flags in force, and the bytes after it (R97). -/
def decode (m8 x8 : Bool) : List Byte → Except DecodeError (Instr × List Byte)
  | [] => .error .empty
  | op :: rest =>
    let n := (formatOf op).operands m8 x8
    if rest.length < n then .error (.truncated op)
    else .ok (decodeOp m8 x8 op (rest.getD 0 0x00#8) (rest.getD 1 0x00#8) (rest.getD 2 0x00#8), rest.drop n)

/-- The bytes of an instruction (R90, R91). -/
def encode (i : Instr) : List Byte := i.opcode :: i.operandBytes

/-- The longest instruction is four bytes (R90): the opcode and the three bytes after it, of a number whose bits are
laid out from bit 0 of the first byte on. -/
def tableBytes (nbits w : Nat) : List Byte :=
  let v := w % 2 ^ nbits
  [byteOf v 0, byteOf v 1, byteOf v 2, byteOf v 3]

/-- What the decoder reads from an instruction whose bits are `w`, numbered as the opcode table numbers them, under the
width flags of the state after reset (M = X_flag = 1, R41; log entry 12). -/
def decodeTableWord (nbits w : Nat) : Option Instr :=
  match decode true true (tableBytes nbits w) with
  | .ok (i, _) => some i
  | .error _ => none

end Sys2Proof
end

