-- ==== Sys2Proof/Config.lean ====
section
/-! DEFINITION. What an implementation fixes and what the spec leaves free (00_scope.md R9, R10): the two named
values of the parameter `IMPL_SET`, the six opcodes that are never in it, the free address of an Internal cycle
(`IDLE_ADDR`), and the free choice in a register snapshot taken in the middle of an instruction. The free values
are opaque: no proof can see what they are. -/

namespace Sys2Proof.Config

/-- `IDLE_ADDR` (R9, R209, D7): what `current_address()` returns during an Internal cycle. The argument is the
machine's count of bus cycles (`State.moment`), so that any two Internal cycles may show different addresses (log entry 5). -/
opaque idleAddr : Nat → Addr

/-- The free choice in a `registers()` snapshot taken between two calls of an instruction (R211, 93 I10; log entry 6): of
the register files along the rows of the instruction, the number of the one that a register is shown from. The first
argument is the moment, the second numbers the register or flag. -/
opaque midChoice : Nat → Nat → Nat

/-- The opcodes that are never in `IMPL_SET`: BRK, COP, RTI, WDM, WAI and STP (R9, R99, R436). -/
def excludedOpcodes : List Byte := [0x00#8, 0x02#8, 0x40#8, 0x42#8, 0xCB#8, 0xDB#8]

/-- A set of opcodes as a word of 256 bits, bit k standing for opcode k. -/
def opcodeSet (ops : List Nat) : BitVec 256 :=
  ops.foldl (fun acc k => acc ||| BitVec.twoPow 256 k) 0#256

/-- The default value of `IMPL_SET` (R9): all 250 opcodes other than the six excluded ones. -/
def implSetAll : BitVec 256 :=
  BitVec.allOnes 256 &&& ~~~(opcodeSet [0x00, 0x02, 0x40, 0x42, 0xCB, 0xDB])

/-- The named alternative `IMPL_SET_SRC` (R10): the opcodes of the instructions the source names, the rows of the
opcode table marked `source_named`. -/
def implSetSrc : BitVec 256 :=
  opcodeSet (
    [0x01, 0x03, 0x04, 0x05, 0x06, 0x07, 0x09, 0x0A, 0x0C, 0x0D, 0x0E, 0x0F] ++
    [0x10, 0x11, 0x12, 0x13, 0x14, 0x15, 0x16, 0x17, 0x18, 0x19, 0x1A, 0x1C, 0x1D, 0x1E, 0x1F] ++
    [0x20, 0x21, 0x22, 0x23, 0x25, 0x26, 0x27, 0x29, 0x2A, 0x2D, 0x2E, 0x2F] ++
    [0x30, 0x31, 0x32, 0x33, 0x35, 0x36, 0x37, 0x39, 0x3A, 0x3D, 0x3E, 0x3F] ++
    [0x41, 0x43, 0x45, 0x46, 0x47, 0x49, 0x4A, 0x4C, 0x4D, 0x4E, 0x4F] ++
    [0x50, 0x51, 0x52, 0x53, 0x55, 0x56, 0x57, 0x58, 0x59, 0x5C, 0x5D, 0x5E, 0x5F] ++
    [0x60, 0x61, 0x63, 0x65, 0x66, 0x67, 0x69, 0x6A, 0x6B, 0x6C, 0x6D, 0x6E, 0x6F] ++
    [0x70, 0x71, 0x72, 0x73, 0x75, 0x76, 0x77, 0x79, 0x7C, 0x7D, 0x7E, 0x7F] ++
    [0x80, 0x88] ++
    [0x90] ++
    [0xB0, 0xB8] ++
    [0xC0, 0xC1, 0xC3, 0xC4, 0xC5, 0xC6, 0xC7, 0xC8, 0xC9, 0xCA, 0xCC, 0xCD, 0xCE, 0xCF] ++
    [0xD0, 0xD1, 0xD2, 0xD3, 0xD5, 0xD6, 0xD7, 0xD8, 0xD9, 0xDC, 0xDD, 0xDE, 0xDF] ++
    [0xE0, 0xE1, 0xE3, 0xE4, 0xE5, 0xE6, 0xE7, 0xE8, 0xE9, 0xEA, 0xEC, 0xED, 0xEE, 0xEF] ++
    [0xF0, 0xF1, 0xF2, 0xF3, 0xF5, 0xF6, 0xF7, 0xF9, 0xFC, 0xFD, 0xFE, 0xFF])

end Sys2Proof.Config
end

