-- ==== Sys2Proof/Machine/State.lean ====
section
/-! DEFINITION. The state of the block and of the memory its host answers from, as plain data (10_state.md;
42_dispatch.md; 20_memory.md R64), and the state right after reset (70_reset_and_hazards.md R490). -/

namespace Sys2Proof.Machine

/-- The two faults of the block (60_exceptions.md R450), with the opcode, PB and PC0 each one records. Raising one
puts the engine in `Cont.halted`; `step` answers with it from a halted state on, as every later `advance()` does
(42_dispatch.md R207, 60_exceptions.md R457). -/
inductive Fault where
  /-- Raised by the decode step for an opcode outside `IMPL_SET` (R451); reported by `step` on a halted state.
  Safe: the spec names this stop. -/
  | unimplementedOpcode (op pb : Byte) (pc0 : Word)
  /-- Raised in place of the write-back of ADC or SBC with D_flag = 1 (R452); reported by `step` on a halted state.
  Safe: the spec names this stop. -/
  | decimalUnsupported (op pb : Byte) (pc0 : Word)
  deriving DecidableEq, Repr

/-- What the model has no meaning for. -/
inductive Refusal where
  /-- Raised by an arm of `exec` for an instruction that has no meaning yet. Safe: the model stops. -/
  | notModelled (mnemonic : String)
  /-- Raised by `step`, `State.advance` and `runTo` on a block that was never reset: an `advance()` before any `reset` is a host behaviour the
  spec assumes never happens (R494, D21, 93 I14 `refuse`). Safe: the model stops. -/
  | advanceBeforeReset
  deriving DecidableEq, Repr

/-- The register file (10_state.md R20) and the processor status flags (R29). B has no storage (R37). -/
structure Regs where
  /-- Accumulator. -/
  a : Word
  /-- Index register X. -/
  x : Word
  /-- Index register Y. -/
  y : Word
  /-- Data bank register. -/
  db : Byte
  /-- Direct-page register. -/
  d : Word
  /-- Program bank register. -/
  pb : Byte
  /-- Program counter, an offset within `pb`. -/
  pc : Word
  /-- Stack pointer. -/
  s : Word
  /-- Negative. -/
  fN : Bool
  /-- Overflow. -/
  fV : Bool
  /-- Accumulator width: 8 bits when set (R16). -/
  fM : Bool
  /-- Index width: 8 bits when set (R16). -/
  fX : Bool
  /-- Decimal. -/
  fD : Bool
  /-- IRQ-disable. -/
  fI : Bool
  /-- Zero. -/
  fZ : Bool
  /-- Carry. -/
  fC : Bool
  /-- Emulation mode. -/
  fE : Bool
  deriving DecidableEq, Repr

/-- The instruction latches `lat` (R39): what the steps of the instruction in progress remember. The operand bytes,
pointer bytes and low data byte stand in `bytes` in the order they were read, which is R212's r2, r3, …; the
effective address is computed from them and `base` (R206; R217, log entry 9). -/
structure Latches where
  /-- The opcode byte. -/
  op : Byte
  /-- The offset of the opcode. -/
  pc0 : Word
  /-- The register file as it stood when the opcode was decoded: the boundary's, with PC past the opcode. -/
  base : Regs
  /-- The bytes the rows after row 1 have read so far. -/
  bytes : List Byte
  deriving DecidableEq, Repr

/-- The pending continuation `cont` (R39, R201). -/
inductive Cont where
  | fetch
  | decode
  /-- `Step(op, k)`: row `k` of the cycle table of opcode `op` comes next; row 1 is the opcode fetch. -/
  | step (op : Byte) (k : Nat)
  | halted (f : Fault)
  deriving DecidableEq, Repr

/-- The kind of a bus cycle (R60). -/
inductive CycleKind where
  | read
  | write
  | internal
  deriving DecidableEq, Repr

/-- What `advance()` returns (R200), and what it answers where the model has no meaning for the call (93 I14; log
entry 11). -/
inductive CycleOutcome where
  | read
  | write
  | internal
  | fault (f : Fault)
  | refused (r : Refusal)
  deriving DecidableEq, Repr

/-- One bus cycle as the host sees it (R212): a Read or a Write with its address, a Write with its byte. -/
inductive BusCycle where
  | read (a : Addr)
  | write (a : Addr) (v : Byte)
  | internal
  deriving DecidableEq, Repr

/-- The host's memory: (address, byte) pairs in the canonical form `Memory.wf` (Machine/Ops.lean). -/
abbrev Memory := List Host.Cell

/-- The block's state (R20, R29, R39), the parameter `IMPL_SET` (R9), the memory its host answers from (R64, R507),
and three fields of the model's own: `launched`, `trace` and `moment` (log entries 11, 19 and 5). -/
structure State where
  /-- The register file and flags. -/
  regs : Regs
  /-- The pending continuation. -/
  cont : Cont
  /-- The 24-bit address bus. -/
  abus : Addr
  /-- The 8-bit data-bus slot. -/
  dbus : Byte
  /-- The kind of the previous cycle. -/
  last : CycleKind
  /-- The instruction latches. -/
  lat : Latches
  /-- The pending deferred write-back: the latches of the instruction whose final byte is in `dbus`, or none. -/
  wb : Option Latches
  /-- The memory of the host, the 24-bit address space (R64). -/
  mem : Memory
  /-- `IMPL_SET`, bit k for opcode k (R9). -/
  implSet : BitVec 256
  /-- Whether `reset` was called (R494, D21). -/
  launched : Bool
  /-- The bus cycles of the instruction in progress or just completed, in order (R212). -/
  trace : List BusCycle
  /-- The number of bus cycles performed: the argument of the free values of Config. -/
  moment : Nat
  deriving DecidableEq, Repr

/-- The register file right after `reset(v)` with v = 0x0000 (R20, R41, R490). A, XL, YL, N, V, Z and C are the draw
`RESET_DRAW` and v is a launch input: DESIGN CHOICE, every one of them 0 here (log entries 1 and 2);
`State.resetTo` in Machine/Ops.lean takes them as arguments. -/
def Regs.reset : Regs :=
  { a := 0x0000#16, x := 0x0000#16, y := 0x0000#16, db := 0x00#8, d := 0x0000#16, pb := 0x00#8, pc := 0x0000#16,
    s := 0x01FF#16, fN := false, fV := false, fM := true, fX := true, fD := false, fI := true, fZ := false,
    fC := false, fE := true }

/-- The latches right after reset, which the spec leaves unspecified (R41): DESIGN CHOICE, log entry 3. -/
def Latches.reset : Latches :=
  { op := 0x00#8, pc0 := 0x0000#16, base := Regs.reset, bytes := [] }

/-- The machine right after reset (R41, R490), with a memory that lists nothing. -/
def State.reset : State :=
  { regs := Regs.reset, cont := .fetch, abus := 0x000000#24, dbus := 0x00#8, last := .internal, lat := Latches.reset,
    wb := none, mem := [], implSet := Config.implSetAll, launched := true, trace := [], moment := 0 }

end Sys2Proof.Machine
end

