-- ==== Sys2Proof/Machine/Ops.lean ====
section
/-! DEFINITION. The named operations: the host's memory (20_memory.md R64), the register views and the stack pointer
(10_state.md R21, R22, R28), one bus cycle (R60, 42_dispatch.md R204), raising a fault (R207), reset (R490), and bus
programs, the form in which every instruction's cycle table is written (R158 to R176, R217), with their run against
the host's memory (R212). -/

namespace Sys2Proof.Machine

/-! ## Memory -/

/-- What an address that is not listed reads as. DESIGN CHOICE, log entry 4. -/
def Memory.unlisted : Byte := 0x00#8

/-- The byte at an address (R64). -/
def Memory.get : Memory → Nat → Byte
  | [], _ => Memory.unlisted
  | c :: m, a => if c.1 = a then c.2 else Memory.get m a

/-- The memory with the byte `v` at address `a`, in canonical form: writing what an unlisted address reads as removes
the entry. -/
def Memory.set : Memory → Nat → Byte → Memory
  | [], a, v => if v = Memory.unlisted then [] else [(a, v)]
  | c :: m, a, v =>
    if c.1 < a then c :: Memory.set m a v
    else if c.1 = a then (if v = Memory.unlisted then m else (a, v) :: m)
    else (if v = Memory.unlisted then c :: m else (a, v) :: c :: m)

/-- Every address listed lies above `lo` (or is any, for none), the addresses rise strictly, each is an address of
the 24-bit space, and no entry is what an unlisted address reads as. -/
def Memory.wfFrom : Option Nat → Memory → Bool
  | _, [] => true
  | lo, c :: m =>
    (match lo with | none => true | some l => decide (l < c.1)) && decide (c.1 < 2 ^ 24)
      && decide (c.2 ≠ Memory.unlisted) && Memory.wfFrom (some c.1) m

/-- The canonical form of a memory. -/
def Memory.wf (m : Memory) : Bool := Memory.wfFrom none m

/-- The byte the host's memory holds at a bus address (R208). -/
def State.readMem (s : State) (a : Addr) : Byte := s.mem.get a.toNat

/-- The word whose low byte lies at bank 0 offset `p` and whose high byte at `p +16 1` (R67, R163). -/
def State.readWord0 (s : State) (p : Word) : Word :=
  word (s.readMem (addr 0x00#8 (p + 1#16))) (s.readMem (addr 0x00#8 p))

/-- A list of bytes written at consecutive offsets of a bank, from `o` on, wrapping within the bank (R27, R65). -/
def Memory.setBytes (m : Memory) (bank : Byte) : Word → List Byte → Memory
  | _, [] => m
  | o, b :: bs => Memory.setBytes (m.set (addr bank o).toNat b) bank (o + 1#16) bs

/-! ## Register views -/

/-- `A_w`: AL at 8 bits, A at 16 (R21). -/
def Regs.getA (r : Regs) (n : Nat) : BitVec n := r.a.setWidth n
/-- `X_w` (R22). -/
def Regs.getX (r : Regs) (n : Nat) : BitVec n := r.x.setWidth n
/-- `Y_w` (R22). -/
def Regs.getY (r : Regs) (n : Nat) : BitVec n := r.y.setWidth n

/-- `A_w <- v`: at 8 bits AH is left as it is (R21). -/
def Regs.setA (r : Regs) {n : Nat} (v : BitVec n) : Regs := { r with a := putLow r.a v }
/-- `X_w <- v` (R22). -/
def Regs.setX (r : Regs) {n : Nat} (v : BitVec n) : Regs := { r with x := putLow r.x v }
/-- `Y_w <- v` (R22). -/
def Regs.setY (r : Regs) {n : Nat} (v : BitVec n) : Regs := { r with y := putLow r.y v }

/-- What a register-only instruction does at the accumulator width `wm` (R16). -/
def Regs.atM (r : Regs) (f : Nat → Regs → Regs) : Regs := if r.fM then f 8 r else f 16 r
/-- What a register-only instruction does at the index width `wx` (R16). -/
def Regs.atX (r : Regs) (f : Nat → Regs → Regs) : Regs := if r.fX then f 8 r else f 16 r

/-- `PC <- PC +16 1`, without carry into PB (R27). -/
def Regs.incPc (r : Regs) : Regs := { r with pc := r.pc + 1#16 }

/-- `PB:PC`, the address of the next instruction-stream byte (R27). -/
def Regs.codeAddr (r : Regs) : Addr := addr r.pb r.pc

/-- A write of S: in emulation mode SH is pinned to 0x01 (R28). -/
def Regs.setS (r : Regs) (v : Word) : Regs := { r with s := if r.fE then word 0x01#8 (lo8 v) else v }

/-- `decS()` (R71). -/
def Regs.decS (r : Regs) : Regs := r.setS (r.s - 1#16)

/-- `incS()` (R71). -/
def Regs.incS (r : Regs) : Regs := r.setS (r.s + 1#16)

/-- The stack address `0x00:S` (R66, R70). -/
def Regs.stackAddr (r : Regs) : Addr := addr 0x00#8 r.s

/-! ## One bus cycle -/

/-- Whether the block has a dispatch-table entry for the opcode: it is in `IMPL_SET` and none of the six that never
are (R9, R99, R436). -/
def State.dispatches (s : State) (op : Byte) : Bool :=
  s.implSet.getLsbD op.toNat && !(Config.excludedOpcodes.contains op)

/-- The bus part of a Read cycle (R204): `abus <- a; last <- Read`, the register file as the row leaves it. -/
def State.cycRead (s : State) (a : Addr) (r : Regs) : State :=
  { s with regs := r, abus := a, last := .read, trace := s.trace ++ [.read a], moment := s.moment + 1 }

/-- The bus part of a Write cycle (R204): `abus <- a; dbus <- v; last <- Write`. -/
def State.cycWrite (s : State) (a : Addr) (v : Byte) (r : Regs) : State :=
  { s with regs := r, abus := a, dbus := v, last := .write, trace := s.trace ++ [.write a v],
           moment := s.moment + 1 }

/-- The bus part of an Internal cycle (R204, R209): `abus <- IDLE_ADDR(state); last <- Internal`. -/
def State.cycIdle (s : State) (r : Regs) : State :=
  { s with regs := r, abus := Config.idleAddr s.moment, last := .internal, trace := s.trace ++ [.internal],
           moment := s.moment + 1 }

/-- The row number that follows (R204: `cont <- Step(op, k + 1)`); the decode step performs row 2 (R203). -/
def State.goOn (s : State) : State :=
  { s with cont := match s.cont with
                   | .step op k => .step op (k + 1)
                   | _ => .step s.lat.op 3 }

/-- After the last row (R204): `cont <- Fetch`, with the deferred write-back pending or none. -/
def State.finish (s : State) (deferred : Bool) : State :=
  { s with cont := .fetch, wb := if deferred then some s.lat else none }

/-- The host places a byte in the data-bus slot (R208). -/
def State.supply (s : State) (b : Byte) : State := { s with dbus := b }

/-- The host stores the slot's byte at the address on the bus (R208). -/
def State.store (s : State) : State := { s with mem := s.mem.set s.abus.toNat s.dbus }

/-- The byte in the slot becomes the datum of the previous row, when that row was a Read (R204). -/
def State.consume (s : State) : State :=
  match s.last with
  | .read => { s with lat := { s.lat with bytes := s.lat.bytes ++ [s.dbus] } }
  | _ => s

/-- The opcode fetch without the write-back before it (R202). -/
def State.startFetch (s : State) : State :=
  { s with regs := s.regs.incPc, cont := .decode, abus := s.regs.codeAddr, last := .read,
           lat := { s.lat with pc0 := s.regs.pc }, trace := [.read s.regs.codeAddr], moment := s.moment + 1 }

/-- The decode step's latching of the opcode byte (R203). -/
def State.latchOpcode (s : State) (op : Byte) : State :=
  { s with lat := { op := op, pc0 := s.lat.pc0, base := s.regs, bytes := [] } }

/-- Taking a fault (R207, R457): nothing is saved and control goes nowhere; the engine halts with the fault. -/
def State.raise (s : State) (f : Fault) : State := { s with cont := .halted f }

/-! ## Bus programs -/

/-- Where a Read goes: an instruction-stream Read at PB:PC, or a data Read. -/
inductive Source where
  | stream
  | data
  deriving DecidableEq, Repr

/-- The rows of an instruction after its opcode fetch, in order, each with the register file as it leaves it. A row
that is not the last goes on with the rest, which depends on the byte read where the row is a Read. A last row that
is a Read carries the deferred write-back, or none where the byte is not used (R205, R390). -/
inductive Prog where
  | read (src : Source) (a : Addr) (r : Regs) (k : Byte → Prog)
  | readLast (src : Source) (a : Addr) (r : Regs) (wb : Option (Byte → Except Fault Regs))
  | write (a : Addr) (v : Byte) (r : Regs) (k : Prog)
  | writeLast (a : Addr) (v : Byte) (r : Regs)
  | idle (r : Regs) (k : Prog)
  | idleLast (r : Regs)

/-- The bus cycle of a program's first row, and the continuation after it (R204). -/
def State.perform (s : State) : Prog → CycleOutcome × State
  | .read _ a r _ => (.read, (s.cycRead a r).goOn)
  | .readLast _ a r wb => (.read, (s.cycRead a r).finish wb.isSome)
  | .write a v r _ => (.write, (s.cycWrite a v r).goOn)
  | .writeLast a v r => (.write, (s.cycWrite a v r).finish false)
  | .idle r _ => (.internal, (s.cycIdle r).goOn)
  | .idleLast r => (.internal, (s.cycIdle r).finish false)

/-- Whether a cycle is a Write to the address. -/
def BusCycle.writesTo (a : Addr) : BusCycle → Bool
  | .write b _ => a == b
  | _ => false

/-- The host's answer to a Read when the instruction runs as one transition: for an instruction-stream Read the next
byte of the instruction itself, unless this very instruction has written that address (R503: possible in JSR (a,X) and
JSL only; log entry 16); for every other Read what the memory holds (R77, R208; log entry 13). -/
def State.answer (s : State) (src : Source) (a : Addr) (code : List Byte) : Byte :=
  match src, code with
  | .stream, b :: _ => if s.trace.any (BusCycle.writesTo a) then s.readMem a else b
  | _, _ => s.readMem a

/-- The instruction bytes left after a Read. -/
def Source.rest : Source → List Byte → List Byte
  | .stream, code => code.tail
  | .data, code => code

/-- The deferred write-back applied to the byte of the last Read (R205, R210): the new register file, or the fault
in its place (R452). -/
def State.settle (s : State) (wb : Option (Byte → Except Fault Regs)) (b : Byte) : State :=
  match wb with
  | none => s
  | some f =>
    match f b with
    | .ok r => { s with regs := r, wb := none }
    | .error e => s.raise e

/-- A program run to the committed state at the next boundary (R210, R212), the host answering every Read and
performing every Write. `code` holds the instruction's own bytes that are still to be read. -/
def Prog.run : Prog → List Byte → State → State
  | .read src a r k, code, s =>
    let b := s.answer src a code
    (k b).run (src.rest code) ((s.cycRead a r).goOn.supply b).consume
  | .readLast src a r wb, code, s =>
    let b := s.answer src a code
    (((s.cycRead a r).finish wb.isSome).supply b).settle wb b
  | .write a v r k, code, s => k.run code (s.cycWrite a v r).goOn.store
  | .writeLast a v r, _, s => ((s.cycWrite a v r).finish false).store
  | .idle r k, code, s => k.run code (s.cycIdle r).goOn
  | .idleLast r, _, s => (s.cycIdle r).finish false

/-- What is left of a program after `n` rows that have read the bytes `bs` (R212). -/
def Prog.after : Prog → Nat → List Byte → Option Prog
  | p, 0, _ => some p
  | .read _ _ _ k, n + 1, b :: bs => (k b).after n bs
  | .write _ _ _ k, n + 1, bs => k.after n bs
  | .idle _ k, n + 1, bs => k.after n bs
  | _, _ + 1, _ => none

/-- The deferred write-back of a program whose Reads before the last have read the bytes `bs` (R205: "takes the whole
of its operand from latches except the final byte"). -/
def Prog.deferred : Prog → List Byte → Option (Byte → Except Fault Regs)
  | .read _ _ _ k, b :: bs => (k b).deferred bs
  | .read _ _ _ _, [] => none
  | .readLast _ _ _ wb, _ => wb
  | .write _ _ _ k, bs => k.deferred bs
  | .idle _ k, bs => k.deferred bs
  | .writeLast _ _ _, _ => none
  | .idleLast _, _ => none

/-! ## One instruction as one transition -/

/-- The opcode fetch at a committed boundary with the opcode byte supplied and latched: row 1 and the first half of
the decode step (R202, R203). -/
def State.fetchOpcode (s : State) (op : Byte) : State := (s.startFetch.supply op).latchOpcode op

/-- An instruction with no dispatch-table entry (R451): after the opcode fetch the decode step raises
`UnimplementedOpcode`, with no other cycle and no other register change. -/
def State.rejectOpcode (s : State) (op : Byte) : State :=
  (s.fetchOpcode op).raise (.unimplementedOpcode op s.regs.pb s.regs.pc)

/-- One instruction from the committed boundary before it to the committed boundary after it (R212): opcode fetch,
decode, and the rows of its program, whose instruction bytes after the opcode are `code`. -/
def runInstr (op : Byte) (p : Regs → Prog) (code : List Byte) (s : State) : Host.Outcome State Fault Refusal :=
  if s.dispatches op then .next ((p (s.fetchOpcode op).regs).run code (s.fetchOpcode op))
  else .next (s.rejectOpcode op)

/-! ## Reset -/

/-- `RESET_DRAW` (R9, R41): the registers and flags that reset does not fix. -/
structure ResetDraw where
  a : Word
  xl : Byte
  yl : Byte
  fN : Bool
  fV : Bool
  fZ : Bool
  fC : Bool
  deriving DecidableEq, Repr

/-- The engine state that reset leaves unspecified (R41, R490, 93 I9). -/
structure BusDraw where
  lat : Latches
  abus : Addr
  dbus : Byte
  deriving DecidableEq, Repr

/-- The register file after `reset(v)` (R490). -/
def Regs.resetTo (v : Word) (dr : ResetDraw) : Regs :=
  { a := dr.a, x := word 0x00#8 dr.xl, y := word 0x00#8 dr.yl, db := 0x00#8, d := 0x0000#16, pb := 0x00#8, pc := v,
    s := 0x01FF#16, fN := dr.fN, fV := dr.fV, fM := true, fX := true, fD := false, fI := true, fZ := dr.fZ,
    fC := dr.fC, fE := true }

/-- `reset(v)` (R490, R493): at any time, it sets the whole state at once and discards the instruction in progress,
the pending write-back and a fault; memory keeps what was written. -/
def State.resetTo (s : State) (v : Word) (dr : ResetDraw) (bd : BusDraw) : State :=
  { s with regs := Regs.resetTo v dr, cont := .fetch, abus := bd.abus, dbus := bd.dbus, last := .internal,
           lat := bd.lat, wb := none, launched := true, trace := [] }

end Sys2Proof.Machine
end

