-- ==== Sys2Proof/Machine/Flags.lean ====
section
/-! DEFINITION. The processor status (10_state.md R29 to R37): the N and Z rule, the status byte P, the write of a
whole status byte, and the change to emulation mode (47_flags_mode.md R369, R371). -/

namespace Sys2Proof.Machine

/-- `setNZ(w, r)`: Z iff the result is 0, N its sign bit (R120). -/
def Regs.setNZ (r : Regs) {n : Nat} (v : BitVec n) : Regs := { r with fZ := v == 0#n, fN := v.msb }

/-- A byte from its bits, bit 7 first. -/
def byteOfBits (b7 b6 b5 b4 b3 b2 b1 b0 : Bool) : Byte :=
  BitVec.ofBool b7 ++ BitVec.ofBool b6 ++ BitVec.ofBool b5 ++ BitVec.ofBool b4 ++
    BitVec.ofBool b3 ++ BitVec.ofBool b2 ++ BitVec.ofBool b1 ++ BitVec.ofBool b0

/-- The status byte P (R30): N V M X D I Z C from bit 7 to bit 0; in emulation mode bits 5 and 4 read 1 (R37). -/
def Regs.p (r : Regs) : Byte :=
  byteOfBits r.fN r.fV (r.fM || r.fE) (r.fX || r.fE) r.fD r.fI r.fZ r.fC

/-- The index register value after X_flag becomes `xf`: the high byte is zeroed when it goes from 0 to 1 (R23). -/
def narrowIndex (old : Word) (was becomes : Bool) : Word :=
  if !was && becomes then word 0x00#8 (lo8 old) else old

/-- `set_P(v)` (R369): in emulation mode bits 5 and 4 are ignored (R34). -/
def Regs.setP (r : Regs) (v : Byte) : Regs :=
  { r with
    fN := v.getLsbD 7, fV := v.getLsbD 6, fD := v.getLsbD 3, fI := v.getLsbD 2, fZ := v.getLsbD 1, fC := v.getLsbD 0
    fM := if r.fE then r.fM else v.getLsbD 5
    fX := if r.fE then r.fX else v.getLsbD 4
    x := if r.fE then r.x else narrowIndex r.x r.fX (v.getLsbD 4)
    y := if r.fE then r.y else narrowIndex r.y r.fX (v.getLsbD 4) }

/-- `enter_emulation()` (R371). -/
def Regs.enterEmulation (r : Regs) : Regs :=
  { r with fM := true, fX := true, x := word 0x00#8 (lo8 r.x), y := word 0x00#8 (lo8 r.y),
           s := word 0x01#8 (lo8 r.s) }

end Sys2Proof.Machine
end

