-- ==== Sys2Proof/Machine/Alu.lean ====
section
/-! DEFINITION. The ALU algorithm library (40_alu.md): pure functions defined once over the width (R134) and used at
8 and 16 bits. The decimal check of R121 stands with the instructions that raise it (R135). -/

namespace Sys2Proof.Machine

/-- A result with a carry and an overflow. -/
structure AluOut (n : Nat) where
  res : BitVec n
  c : Bool
  v : Bool
  deriving DecidableEq, Repr

/-- `add_with_carry` (R121), binary. -/
def addWithCarry {n : Nat} (a b : BitVec n) (cin : Bool) : AluOut n :=
  let sum := a.toNat + b.toNat + cin.toNat
  let res := BitVec.ofNat n sum
  { res := res, c := decide (sum > 2 ^ n - 1), v := ((a ^^^ res) &&& (b ^^^ res)).msb }

/-- `subtract_with_borrow` (R122): the sum with the complement of the operand. -/
def subWithBorrow {n : Nat} (a b : BitVec n) (cin : Bool) : AluOut n := addWithCarry a (~~~b) cin

/-- The flags of `compare` (R123). -/
structure CompareOut where
  c : Bool
  z : Bool
  n : Bool
  deriving DecidableEq, Repr

/-- `compare` (R123): unsigned carry, equality, and the sign of the difference; V is not written. -/
def compare {n : Nat} (r b : BitVec n) : CompareOut :=
  { c := decide (b.toNat ≤ r.toNat), z := r == b, n := (r - b).msb }

/-- A result with the bit shifted out. -/
structure ShiftOut (n : Nat) where
  res : BitVec n
  c : Bool
  deriving DecidableEq, Repr

/-- `shl` (R126). -/
def shl {n : Nat} (b : BitVec n) : ShiftOut n := { res := b <<< 1, c := b.msb }

/-- `shr` (R127). -/
def shr {n : Nat} (b : BitVec n) : ShiftOut n := { res := b >>> 1, c := b.getLsbD 0 }

/-- `rol` (R128): through the carry, in n + 1 bits. -/
def rol {n : Nat} (b : BitVec n) (cin : Bool) : ShiftOut n :=
  { res := (b <<< 1) ||| (BitVec.ofBool cin).setWidth n, c := b.msb }

/-- `ror` (R129): through the carry, in n + 1 bits. -/
def ror {n : Nat} (b : BitVec n) (cin : Bool) : ShiftOut n :=
  { res := (b >>> 1) ||| ((BitVec.ofBool cin).setWidth n <<< (n - 1)), c := b.getLsbD 0 }

/-- `inc` (R130). -/
def inc {n : Nat} (b : BitVec n) : BitVec n := b + 1#n

/-- `dec` (R131). -/
def dec {n : Nat} (b : BitVec n) : BitVec n := b - 1#n

/-- The Z flag of `bit_test`, `test_set_bits` and `test_reset_bits` (R125, R132, R133). -/
def testZ {n : Nat} (a b : BitVec n) : Bool := (a &&& b) == 0#n

/-- The result of `test_set_bits` (R132). -/
def setBits {n : Nat} (a b : BitVec n) : BitVec n := b ||| a

/-- The result of `test_reset_bits` (R133). -/
def resetBits {n : Nat} (a b : BitVec n) : BitVec n := b &&& ~~~a

end Sys2Proof.Machine
end

