-- ==== Sys2Proof/Machine/Operands.lean ====
section
/-! DEFINITION. The addressing-mode resolver (41_addressing.md): the effective address of each of the 15 modes, the
address cycles each costs, the data phases READ, WRITE and RMW, and the immediate, accumulator and implied forms.
Also the stack cycles of pushes and pulls (20_memory.md R72 to R74). -/

namespace Sys2Proof.Machine

/-- The 15 data addressing modes (R150). -/
inductive Mode where
  | dp | dpX | dpY | dpInd | dpXInd | dpIndY | dpLong | dpLongY
  | abs | absX | absY | long | longX | sr | srIndY
  deriving DecidableEq, Repr

/-- The access classes (R151). -/
inductive AccessClass where
  | read
  | write
  | rmw
  deriving DecidableEq, Repr

/-- An effective address: EA and EAhi, the address of the high byte of a 16-bit operand (R153). -/
structure EA where
  lo : Addr
  hi : Addr
  deriving DecidableEq, Repr

/-- An address within a bank: EAhi wraps within the bank (R153). -/
def EA.inBank (b : Byte) (o : Word) : EA := { lo := addr b o, hi := addr b (o + 1#16) }

/-- A 24-bit address: EAhi carries into the next bank (R153). -/
def EA.linear (a : Addr) : EA := { lo := a, hi := a + 1#24 }

/-- `D +16 DO` (R160): the direct-page offset, and the pointer of the modes through it (R163, R165, R166). -/
def Regs.dpOff (r : Regs) (off : Byte) : Word := r.d + zext off
/-- `D +16 DO +16 X` (R161, R164). -/
def Regs.dpOffX (r : Regs) (off : Byte) : Word := r.d + zext off + r.x
/-- `D +16 DO +16 Y` (R162). -/
def Regs.dpOffY (r : Regs) (off : Byte) : Word := r.d + zext off + r.y
/-- `S +16 SO` (R173, R174). -/
def Regs.srOff (r : Regs) (off : Byte) : Word := r.s + zext off
/-- `DB:AA` (R163, R164, R168). -/
def Regs.eaDb (r : Regs) (aa : Word) : EA := .inBank r.db aa
/-- `DB:(AA +16 X)` (R169). -/
def Regs.eaDbX (r : Regs) (aa : Word) : EA := .inBank r.db (aa + r.x)
/-- `DB:(AA +16 Y)` (R165, R170, R174). -/
def Regs.eaDbY (r : Regs) (aa : Word) : EA := .inBank r.db (aa + r.y)
/-- `{AAB, AA}` (R166, R171). -/
def eaLong (aab : Byte) (aa : Word) : EA := .linear (addr aab aa)
/-- `{AAB, AA} +24 X` (R172). -/
def Regs.eaLongX (r : Regs) (aab : Byte) (aa : Word) : EA := .linear (addr aab aa + r.x.setWidth 24)
/-- `{AAB, AA} +24 Y` (R167). -/
def Regs.eaLongY (r : Regs) (aab : Byte) (aa : Word) : EA := .linear (addr aab aa + r.y.setWidth 24)

/-- The effective address of an instruction whose operand bytes are `code`, its pointer read from the memory of `s`
(the EA column of R150). The registers are those at the boundary. -/
def State.effAddr (s : State) (m : Mode) (code : List Byte) : EA :=
  let b1 := code.getD 0 0x00#8
  let aa := word (code.getD 1 0x00#8) b1
  let aab := code.getD 2 0x00#8
  match m with
  | .dp => .inBank 0x00#8 (s.regs.dpOff b1)
  | .dpX => .inBank 0x00#8 (s.regs.dpOffX b1)
  | .dpY => .inBank 0x00#8 (s.regs.dpOffY b1)
  | .dpInd => s.regs.eaDb (s.readWord0 (s.regs.dpOff b1))
  | .dpXInd => s.regs.eaDb (s.readWord0 (s.regs.dpOffX b1))
  | .dpIndY => s.regs.eaDbY (s.readWord0 (s.regs.dpOff b1))
  | .dpLong => eaLong (s.readMem (addr 0x00#8 (s.regs.dpOff b1 + 2#16))) (s.readWord0 (s.regs.dpOff b1))
  | .dpLongY => s.regs.eaLongY (s.readMem (addr 0x00#8 (s.regs.dpOff b1 + 2#16))) (s.readWord0 (s.regs.dpOff b1))
  | .abs => s.regs.eaDb aa
  | .absX => s.regs.eaDbX aa
  | .absY => s.regs.eaDbY aa
  | .long => eaLong aab aa
  | .longX => s.regs.eaLongX aab aa
  | .sr => .inBank 0x00#8 (s.regs.srOff b1)
  | .srIndY => s.regs.eaDbY (s.readWord0 (s.regs.srOff b1))

/-! ## Address cycles -/

/-- An instruction-stream Read at PB:PC, which advances PC (R27). -/
def fetchByte (r : Regs) (k : Byte → Regs → Prog) : Prog := .read .stream r.codeAddr r.incPc fun b => k b r.incPc

/-- Two instruction-stream Reads, low byte then high byte (R94). -/
def fetchWord (r : Regs) (k : Word → Regs → Prog) : Prog :=
  fetchByte r fun lo r => fetchByte r fun hi r => k (word hi lo) r

/-- A data Read that is not the last row. -/
def readByte (a : Addr) (r : Regs) (k : Byte → Prog) : Prog := .read .data a r k

/-- Two Reads in bank 0, at `p` and `p +16 1` (R163). -/
def readPtr (p : Word) (r : Regs) (k : Word → Prog) : Prog :=
  readByte (addr 0x00#8 p) r fun lo => readByte (addr 0x00#8 (p + 1#16)) r fun hi => k (word hi lo)

/-- Three Reads in bank 0, at `p`, `p +16 1` and `p +16 2` (R166). -/
def readPtrLong (p : Word) (r : Regs) (k : Byte → Word → Prog) : Prog :=
  readPtr p r fun aa => readByte (addr 0x00#8 (p + 2#16)) r fun aab => k aab aa

/-- An Internal cycle that is not the last row. -/
def idle (r : Regs) (k : Prog) : Prog := .idle r k

/-- An Internal cycle present only under a condition. -/
def idleIf (c : Bool) (r : Regs) (k : Prog) : Prog := if c then .idle r k else k

/-- The fetch of DO with the direct-page idle cycle, present exactly when DL ≠ 0 (R157). -/
def fetchDirect (r : Regs) (k : Byte → Regs → Prog) : Prog :=
  fetchByte r fun off r => idleIf (lo8 r.d != 0x00#8) r (k off r)

/-- Whether the indexing idle cycle of a,X, a,Y and (d),Y is present (R155, R156). -/
def indexIdle (c : AccessClass) (r : Regs) (aa index : Word) : Bool :=
  match c with
  | .read => !r.fX || crosses aa index
  | .write => true
  | .rmw => true

/-- The resolver: the address cycles of a mode, then the rest with the effective address (R160 to R174). -/
def resolve (m : Mode) (c : AccessClass) (r : Regs) (k : EA → Regs → Prog) : Prog :=
  match m with
  | .dp => fetchDirect r fun off r => k (.inBank 0x00#8 (r.dpOff off)) r
  | .dpX => fetchDirect r fun off r => idle r (k (.inBank 0x00#8 (r.dpOffX off)) r)
  | .dpY => fetchDirect r fun off r => idle r (k (.inBank 0x00#8 (r.dpOffY off)) r)
  | .dpInd => fetchDirect r fun off r => readPtr (r.dpOff off) r fun aa => k (r.eaDb aa) r
  | .dpXInd => fetchDirect r fun off r => idle r (readPtr (r.dpOffX off) r fun aa => k (r.eaDb aa) r)
  | .dpIndY => fetchDirect r fun off r => readPtr (r.dpOff off) r fun aa =>
      idleIf (indexIdle c r aa r.y) r (k (r.eaDbY aa) r)
  | .dpLong => fetchDirect r fun off r => readPtrLong (r.dpOff off) r fun aab aa => k (eaLong aab aa) r
  | .dpLongY => fetchDirect r fun off r => readPtrLong (r.dpOff off) r fun aab aa => k (r.eaLongY aab aa) r
  | .abs => fetchWord r fun aa r => k (r.eaDb aa) r
  | .absX => fetchWord r fun aa r => idleIf (indexIdle c r aa r.x) r (k (r.eaDbX aa) r)
  | .absY => fetchWord r fun aa r => idleIf (indexIdle c r aa r.y) r (k (r.eaDbY aa) r)
  | .long => fetchWord r fun aa r => fetchByte r fun aab r => k (eaLong aab aa) r
  | .longX => fetchWord r fun aa r => fetchByte r fun aab r => k (r.eaLongX aab aa) r
  | .sr => fetchByte r fun off r => idle r (k (.inBank 0x00#8 (r.srOff off)) r)
  | .srIndY => fetchByte r fun off r => idle r (readPtr (r.srOff off) r fun aa => idle r (k (r.eaDbY aa) r))

/-! ## Data phases -/

/-- What a read-class instruction does with its operand, at either width: its deferred write-back (R205, R230). -/
abbrev ReadOp := (n : Nat) → BitVec n → Regs → Except Fault Regs

/-- What a read-modify-write instruction does: the new operand and the register file with its flags (R260). -/
abbrev RmwOp := (n : Nat) → BitVec n → Regs → BitVec n × Regs

/-- `READ(w)` (R158): the low byte at EA, the high byte at EAhi where w is 16. -/
def readPhase (w8 : Bool) (ea : EA) (r : Regs) (op : ReadOp) : Prog :=
  if w8 then .readLast .data ea.lo r (some fun b => op 8 b r)
  else readByte ea.lo r fun lo => .readLast .data ea.hi r (some fun hi => op 16 (word hi lo) r)

/-- `WRITE(w, v)` (R158): the low byte at EA, then the high byte at EAhi where w is 16. -/
def writePhase (w8 : Bool) (ea : EA) (v : Word) (r : Regs) : Prog :=
  if w8 then .writeLast ea.lo (lo8 v) r
  else .write ea.lo (lo8 v) r (.writeLast ea.hi (hi8 v) r)

/-- `RMW(w, f)` (R158): read low then high, an Internal cycle in which `f` is applied and its flags are written,
then write high and low. -/
def rmwPhase (w8 : Bool) (ea : EA) (r : Regs) (f : RmwOp) : Prog :=
  if w8 then readByte ea.lo r fun m => idle (f 8 m r).2 (.writeLast ea.lo (f 8 m r).1 (f 8 m r).2)
  else readByte ea.lo r fun lo => readByte ea.hi r fun hi =>
    idle (f 16 (word hi lo) r).2 (.write ea.hi (hi8 (f 16 (word hi lo) r).1) (f 16 (word hi lo) r).2
      (.writeLast ea.lo (lo8 (f 16 (word hi lo) r).1) (f 16 (word hi lo) r).2))

/-- The immediate form (R159): one or two instruction-stream Reads. -/
def immPhase (w8 : Bool) (r : Regs) (op : ReadOp) : Prog :=
  if w8 then .readLast .stream r.codeAddr r.incPc (some fun b => op 8 b r.incPc)
  else fetchByte r fun lo r => .readLast .stream r.codeAddr r.incPc (some fun hi => op 16 (word hi lo) r.incPc)

/-- A read-class instruction at the width `wm` (R152, R230). -/
def readM (m : Mode) (r : Regs) (op : ReadOp) : Prog := resolve m .read r fun ea r => readPhase r.fM ea r op
/-- A read-class instruction at the width `wx` (R152, R230). -/
def readX (m : Mode) (r : Regs) (op : ReadOp) : Prog := resolve m .read r fun ea r => readPhase r.fX ea r op
/-- An immediate at the width `wm` (OP_IM). -/
def immM (r : Regs) (op : ReadOp) : Prog := immPhase r.fM r op
/-- An immediate at the width `wx` (OP_IX). -/
def immX (r : Regs) (op : ReadOp) : Prog := immPhase r.fX r op

/-- The accumulator form (R175): `f` applied to `A_w` in row 2. -/
def accPhase (r : Regs) (f : RmwOp) : Prog :=
  .idleLast (if r.fM then (f 8 (r.getA 8) r).2.setA (f 8 (r.getA 8) r).1
             else (f 16 (r.getA 16) r).2.setA (f 16 (r.getA 16) r).1)

/-- The implied form (R176): the register and flag writes in row 2. -/
def implied (r : Regs) (f : Regs → Regs) : Prog := .idleLast (f r)

/-! ## Stack cycles -/

/-- `Push(v)` as a row that is not the last (R72). -/
def push (v : Byte) (r : Regs) (k : Regs → Prog) : Prog := .write r.stackAddr v r.decS (k r.decS)

/-- `Push(v)` as the last row (R72), the register file changed further by `f`. -/
def pushLast (v : Byte) (r : Regs) (f : Regs → Regs) : Prog := .writeLast r.stackAddr v (f r.decS)

/-- `Push16(v)` ending the instruction (R74): high byte, then low byte. -/
def push16Last (v : Word) (r : Regs) (f : Regs → Regs) : Prog := push (hi8 v) r fun r => pushLast (lo8 v) r f

/-- `Pull()` as a row that is not the last (R73). -/
def pull (r : Regs) (k : Byte → Regs → Prog) : Prog := .read .data r.incS.stackAddr r.incS fun b => k b r.incS

/-- `Pull()` as the last row, its byte used by the deferred write-back (R73, R205). -/
def pullLast (r : Regs) (wb : Byte → Regs → Regs) : Prog :=
  .readLast .data r.incS.stackAddr r.incS (some fun b => .ok (wb b r.incS))

end Sys2Proof.Machine
end

