-- ==== Sys2Proof/Machine/ArithLogic.lean ====
section
/-! DEFINITION. ADC, SBC, CMP, CPX, CPY, AND, ORA, EOR and BIT (43_arith_logic.md): what each does with its operand,
its deferred write-back (R230), and one program and one meaning for each opcode. -/

namespace Sys2Proof.Machine

/-- The fault of ADC and SBC under D_flag = 1 (R452): it takes the place of the write-back. `r0` is the register file
after the opcode fetch, so PC0 is its PC less 1. -/
def decimalFault (op : Byte) (r0 : Regs) : Fault := .decimalUnsupported op r0.pb (r0.pc - 1#16)

/-- The accumulator and the flags C, V, Z and N of an addition (R231, R232). -/
def Regs.putSum (r : Regs) {n : Nat} (o : AluOut n) : Regs :=
  { (r.setA o.res).setNZ o.res with fC := o.c, fV := o.v }

/-- ADC (R231). -/
def adcOp (op : Byte) (r0 : Regs) : ReadOp := fun n b r =>
  if r.fD then .error (decimalFault op r0) else .ok (r.putSum (addWithCarry (r.getA n) b r.fC))

/-- SBC (R232). -/
def sbcOp (op : Byte) (r0 : Regs) : ReadOp := fun n b r =>
  if r.fD then .error (decimalFault op r0) else .ok (r.putSum (subWithBorrow (r.getA n) b r.fC))

/-- The flags C, Z and N of a comparison (R123). -/
def Regs.putCompare (r : Regs) (o : CompareOut) : Regs := { r with fC := o.c, fZ := o.z, fN := o.n }

/-- CMP (R233). -/
def cmpOp : ReadOp := fun n b r => .ok (r.putCompare (compare (r.getA n) b))
/-- CPX (R234). -/
def cpxOp : ReadOp := fun n b r => .ok (r.putCompare (compare (r.getX n) b))
/-- CPY (R235). -/
def cpyOp : ReadOp := fun n b r => .ok (r.putCompare (compare (r.getY n) b))

/-- `A_w <- v` with Z and N (R236 to R238, R290). -/
def Regs.loadA (r : Regs) {n : Nat} (v : BitVec n) : Regs := (r.setA v).setNZ v

/-- AND (R236). -/
def andOp : ReadOp := fun n b r => .ok (r.loadA (r.getA n &&& b))
/-- ORA (R237). -/
def oraOp : ReadOp := fun n b r => .ok (r.loadA (r.getA n ||| b))
/-- EOR (R238). -/
def eorOp : ReadOp := fun n b r => .ok (r.loadA (r.getA n ^^^ b))

/-- BIT, memory forms (R239): Z from the conjunction, N and V from the operand. -/
def bitOp : ReadOp := fun n b r =>
  .ok { r with fZ := testZ (r.getA n) b, fN := b.msb, fV := b.getLsbD (n - 2) }
/-- BIT # (R239): Z only. -/
def bitImmOp : ReadOp := fun n b r => .ok { r with fZ := testZ (r.getA n) b }

/-- ADC `ADC ($nn,X)`, opcode 0x61 (R231, R164). -/
def progAdcDpXInd (r : Regs) : Prog := readM .dpXInd r (adcOp 0x61#8 r)
/-- `ADC ($nn,X)` as one transition (R212). -/
def execAdcDpXInd (off : Byte) (s : State) : Host.Outcome State Fault Refusal :=
  runInstr 0x61#8 progAdcDpXInd [off] s

/-- ADC `ADC $nn,S`, opcode 0x63 (R231, R173). -/
def progAdcSr (r : Regs) : Prog := readM .sr r (adcOp 0x63#8 r)
/-- `ADC $nn,S` as one transition (R212). -/
def execAdcSr (off : Byte) (s : State) : Host.Outcome State Fault Refusal :=
  runInstr 0x63#8 progAdcSr [off] s

/-- ADC `ADC $nn`, opcode 0x65 (R231, R160). -/
def progAdcDp (r : Regs) : Prog := readM .dp r (adcOp 0x65#8 r)
/-- `ADC $nn` as one transition (R212). -/
def execAdcDp (off : Byte) (s : State) : Host.Outcome State Fault Refusal :=
  runInstr 0x65#8 progAdcDp [off] s

/-- ADC `ADC [$nn]`, opcode 0x67 (R231, R166). -/
def progAdcDpLong (r : Regs) : Prog := readM .dpLong r (adcOp 0x67#8 r)
/-- `ADC [$nn]` as one transition (R212). -/
def execAdcDpLong (off : Byte) (s : State) : Host.Outcome State Fault Refusal :=
  runInstr 0x67#8 progAdcDpLong [off] s

/-- ADC `ADC #`, opcode 0x69 (R231, R159). -/
def progAdcImm (r : Regs) : Prog := immM r (adcOp 0x69#8 r)
/-- `ADC #` as one transition (R212). -/
def execAdcImm (imm : Imm) (s : State) : Host.Outcome State Fault Refusal :=
  runInstr 0x69#8 progAdcImm (immBytes imm) s

/-- ADC `ADC $nnnn`, opcode 0x6D (R231, R168). -/
def progAdcAbs (r : Regs) : Prog := readM .abs r (adcOp 0x6D#8 r)
/-- `ADC $nnnn` as one transition (R212). -/
def execAdcAbs (aa : Word) (s : State) : Host.Outcome State Fault Refusal :=
  runInstr 0x6D#8 progAdcAbs (bytesW aa) s

/-- ADC `ADC $nnnnnn`, opcode 0x6F (R231, R171). -/
def progAdcLong (r : Regs) : Prog := readM .long r (adcOp 0x6F#8 r)
/-- `ADC $nnnnnn` as one transition (R212). -/
def execAdcLong (al : Addr) (s : State) : Host.Outcome State Fault Refusal :=
  runInstr 0x6F#8 progAdcLong (bytesL al) s

/-- ADC `ADC ($nn),Y`, opcode 0x71 (R231, R165). -/
def progAdcDpIndY (r : Regs) : Prog := readM .dpIndY r (adcOp 0x71#8 r)
/-- `ADC ($nn),Y` as one transition (R212). -/
def execAdcDpIndY (off : Byte) (s : State) : Host.Outcome State Fault Refusal :=
  runInstr 0x71#8 progAdcDpIndY [off] s

/-- ADC `ADC ($nn)`, opcode 0x72 (R231, R163). -/
def progAdcDpInd (r : Regs) : Prog := readM .dpInd r (adcOp 0x72#8 r)
/-- `ADC ($nn)` as one transition (R212). -/
def execAdcDpInd (off : Byte) (s : State) : Host.Outcome State Fault Refusal :=
  runInstr 0x72#8 progAdcDpInd [off] s

/-- ADC `ADC ($nn,S),Y`, opcode 0x73 (R231, R174). -/
def progAdcSrIndY (r : Regs) : Prog := readM .srIndY r (adcOp 0x73#8 r)
/-- `ADC ($nn,S),Y` as one transition (R212). -/
def execAdcSrIndY (off : Byte) (s : State) : Host.Outcome State Fault Refusal :=
  runInstr 0x73#8 progAdcSrIndY [off] s

/-- ADC `ADC $nn,X`, opcode 0x75 (R231, R161). -/
def progAdcDpX (r : Regs) : Prog := readM .dpX r (adcOp 0x75#8 r)
/-- `ADC $nn,X` as one transition (R212). -/
def execAdcDpX (off : Byte) (s : State) : Host.Outcome State Fault Refusal :=
  runInstr 0x75#8 progAdcDpX [off] s

/-- ADC `ADC [$nn],Y`, opcode 0x77 (R231, R167). -/
def progAdcDpLongY (r : Regs) : Prog := readM .dpLongY r (adcOp 0x77#8 r)
/-- `ADC [$nn],Y` as one transition (R212). -/
def execAdcDpLongY (off : Byte) (s : State) : Host.Outcome State Fault Refusal :=
  runInstr 0x77#8 progAdcDpLongY [off] s

/-- ADC `ADC $nnnn,Y`, opcode 0x79 (R231, R170). -/
def progAdcAbsY (r : Regs) : Prog := readM .absY r (adcOp 0x79#8 r)
/-- `ADC $nnnn,Y` as one transition (R212). -/
def execAdcAbsY (aa : Word) (s : State) : Host.Outcome State Fault Refusal :=
  runInstr 0x79#8 progAdcAbsY (bytesW aa) s

/-- ADC `ADC $nnnn,X`, opcode 0x7D (R231, R169). -/
def progAdcAbsX (r : Regs) : Prog := readM .absX r (adcOp 0x7D#8 r)
/-- `ADC $nnnn,X` as one transition (R212). -/
def execAdcAbsX (aa : Word) (s : State) : Host.Outcome State Fault Refusal :=
  runInstr 0x7D#8 progAdcAbsX (bytesW aa) s

/-- ADC `ADC $nnnnnn,X`, opcode 0x7F (R231, R172). -/
def progAdcLongX (r : Regs) : Prog := readM .longX r (adcOp 0x7F#8 r)
/-- `ADC $nnnnnn,X` as one transition (R212). -/
def execAdcLongX (al : Addr) (s : State) : Host.Outcome State Fault Refusal :=
  runInstr 0x7F#8 progAdcLongX (bytesL al) s

/-- SBC `SBC ($nn,X)`, opcode 0xE1 (R232, R164). -/
def progSbcDpXInd (r : Regs) : Prog := readM .dpXInd r (sbcOp 0xE1#8 r)
/-- `SBC ($nn,X)` as one transition (R212). -/
def execSbcDpXInd (off : Byte) (s : State) : Host.Outcome State Fault Refusal :=
  runInstr 0xE1#8 progSbcDpXInd [off] s

/-- SBC `SBC $nn,S`, opcode 0xE3 (R232, R173). -/
def progSbcSr (r : Regs) : Prog := readM .sr r (sbcOp 0xE3#8 r)
/-- `SBC $nn,S` as one transition (R212). -/
def execSbcSr (off : Byte) (s : State) : Host.Outcome State Fault Refusal :=
  runInstr 0xE3#8 progSbcSr [off] s

/-- SBC `SBC $nn`, opcode 0xE5 (R232, R160). -/
def progSbcDp (r : Regs) : Prog := readM .dp r (sbcOp 0xE5#8 r)
/-- `SBC $nn` as one transition (R212). -/
def execSbcDp (off : Byte) (s : State) : Host.Outcome State Fault Refusal :=
  runInstr 0xE5#8 progSbcDp [off] s

/-- SBC `SBC [$nn]`, opcode 0xE7 (R232, R166). -/
def progSbcDpLong (r : Regs) : Prog := readM .dpLong r (sbcOp 0xE7#8 r)
/-- `SBC [$nn]` as one transition (R212). -/
def execSbcDpLong (off : Byte) (s : State) : Host.Outcome State Fault Refusal :=
  runInstr 0xE7#8 progSbcDpLong [off] s

/-- SBC `SBC #`, opcode 0xE9 (R232, R159). -/
def progSbcImm (r : Regs) : Prog := immM r (sbcOp 0xE9#8 r)
/-- `SBC #` as one transition (R212). -/
def execSbcImm (imm : Imm) (s : State) : Host.Outcome State Fault Refusal :=
  runInstr 0xE9#8 progSbcImm (immBytes imm) s

/-- SBC `SBC $nnnn`, opcode 0xED (R232, R168). -/
def progSbcAbs (r : Regs) : Prog := readM .abs r (sbcOp 0xED#8 r)
/-- `SBC $nnnn` as one transition (R212). -/
def execSbcAbs (aa : Word) (s : State) : Host.Outcome State Fault Refusal :=
  runInstr 0xED#8 progSbcAbs (bytesW aa) s

/-- SBC `SBC $nnnnnn`, opcode 0xEF (R232, R171). -/
def progSbcLong (r : Regs) : Prog := readM .long r (sbcOp 0xEF#8 r)
/-- `SBC $nnnnnn` as one transition (R212). -/
def execSbcLong (al : Addr) (s : State) : Host.Outcome State Fault Refusal :=
  runInstr 0xEF#8 progSbcLong (bytesL al) s

/-- SBC `SBC ($nn),Y`, opcode 0xF1 (R232, R165). -/
def progSbcDpIndY (r : Regs) : Prog := readM .dpIndY r (sbcOp 0xF1#8 r)
/-- `SBC ($nn),Y` as one transition (R212). -/
def execSbcDpIndY (off : Byte) (s : State) : Host.Outcome State Fault Refusal :=
  runInstr 0xF1#8 progSbcDpIndY [off] s

/-- SBC `SBC ($nn)`, opcode 0xF2 (R232, R163). -/
def progSbcDpInd (r : Regs) : Prog := readM .dpInd r (sbcOp 0xF2#8 r)
/-- `SBC ($nn)` as one transition (R212). -/
def execSbcDpInd (off : Byte) (s : State) : Host.Outcome State Fault Refusal :=
  runInstr 0xF2#8 progSbcDpInd [off] s

/-- SBC `SBC ($nn,S),Y`, opcode 0xF3 (R232, R174). -/
def progSbcSrIndY (r : Regs) : Prog := readM .srIndY r (sbcOp 0xF3#8 r)
/-- `SBC ($nn,S),Y` as one transition (R212). -/
def execSbcSrIndY (off : Byte) (s : State) : Host.Outcome State Fault Refusal :=
  runInstr 0xF3#8 progSbcSrIndY [off] s

/-- SBC `SBC $nn,X`, opcode 0xF5 (R232, R161). -/
def progSbcDpX (r : Regs) : Prog := readM .dpX r (sbcOp 0xF5#8 r)
/-- `SBC $nn,X` as one transition (R212). -/
def execSbcDpX (off : Byte) (s : State) : Host.Outcome State Fault Refusal :=
  runInstr 0xF5#8 progSbcDpX [off] s

/-- SBC `SBC [$nn],Y`, opcode 0xF7 (R232, R167). -/
def progSbcDpLongY (r : Regs) : Prog := readM .dpLongY r (sbcOp 0xF7#8 r)
/-- `SBC [$nn],Y` as one transition (R212). -/
def execSbcDpLongY (off : Byte) (s : State) : Host.Outcome State Fault Refusal :=
  runInstr 0xF7#8 progSbcDpLongY [off] s

/-- SBC `SBC $nnnn,Y`, opcode 0xF9 (R232, R170). -/
def progSbcAbsY (r : Regs) : Prog := readM .absY r (sbcOp 0xF9#8 r)
/-- `SBC $nnnn,Y` as one transition (R212). -/
def execSbcAbsY (aa : Word) (s : State) : Host.Outcome State Fault Refusal :=
  runInstr 0xF9#8 progSbcAbsY (bytesW aa) s

/-- SBC `SBC $nnnn,X`, opcode 0xFD (R232, R169). -/
def progSbcAbsX (r : Regs) : Prog := readM .absX r (sbcOp 0xFD#8 r)
/-- `SBC $nnnn,X` as one transition (R212). -/
def execSbcAbsX (aa : Word) (s : State) : Host.Outcome State Fault Refusal :=
  runInstr 0xFD#8 progSbcAbsX (bytesW aa) s

/-- SBC `SBC $nnnnnn,X`, opcode 0xFF (R232, R172). -/
def progSbcLongX (r : Regs) : Prog := readM .longX r (sbcOp 0xFF#8 r)
/-- `SBC $nnnnnn,X` as one transition (R212). -/
def execSbcLongX (al : Addr) (s : State) : Host.Outcome State Fault Refusal :=
  runInstr 0xFF#8 progSbcLongX (bytesL al) s

/-- CMP `CMP ($nn,X)`, opcode 0xC1 (R233, R164). -/
def progCmpDpXInd (r : Regs) : Prog := readM .dpXInd r cmpOp
/-- `CMP ($nn,X)` as one transition (R212). -/
def execCmpDpXInd (off : Byte) (s : State) : Host.Outcome State Fault Refusal :=
  runInstr 0xC1#8 progCmpDpXInd [off] s

/-- CMP `CMP $nn,S`, opcode 0xC3 (R233, R173). -/
def progCmpSr (r : Regs) : Prog := readM .sr r cmpOp
/-- `CMP $nn,S` as one transition (R212). -/
def execCmpSr (off : Byte) (s : State) : Host.Outcome State Fault Refusal :=
  runInstr 0xC3#8 progCmpSr [off] s

/-- CMP `CMP $nn`, opcode 0xC5 (R233, R160). -/
def progCmpDp (r : Regs) : Prog := readM .dp r cmpOp
/-- `CMP $nn` as one transition (R212). -/
def execCmpDp (off : Byte) (s : State) : Host.Outcome State Fault Refusal :=
  runInstr 0xC5#8 progCmpDp [off] s

/-- CMP `CMP [$nn]`, opcode 0xC7 (R233, R166). -/
def progCmpDpLong (r : Regs) : Prog := readM .dpLong r cmpOp
/-- `CMP [$nn]` as one transition (R212). -/
def execCmpDpLong (off : Byte) (s : State) : Host.Outcome State Fault Refusal :=
  runInstr 0xC7#8 progCmpDpLong [off] s

/-- CMP `CMP #`, opcode 0xC9 (R233, R159). -/
def progCmpImm (r : Regs) : Prog := immM r cmpOp
/-- `CMP #` as one transition (R212). -/
def execCmpImm (imm : Imm) (s : State) : Host.Outcome State Fault Refusal :=
  runInstr 0xC9#8 progCmpImm (immBytes imm) s

/-- CMP `CMP $nnnn`, opcode 0xCD (R233, R168). -/
def progCmpAbs (r : Regs) : Prog := readM .abs r cmpOp
/-- `CMP $nnnn` as one transition (R212). -/
def execCmpAbs (aa : Word) (s : State) : Host.Outcome State Fault Refusal :=
  runInstr 0xCD#8 progCmpAbs (bytesW aa) s

/-- CMP `CMP $nnnnnn`, opcode 0xCF (R233, R171). -/
def progCmpLong (r : Regs) : Prog := readM .long r cmpOp
/-- `CMP $nnnnnn` as one transition (R212). -/
def execCmpLong (al : Addr) (s : State) : Host.Outcome State Fault Refusal :=
  runInstr 0xCF#8 progCmpLong (bytesL al) s

/-- CMP `CMP ($nn),Y`, opcode 0xD1 (R233, R165). -/
def progCmpDpIndY (r : Regs) : Prog := readM .dpIndY r cmpOp
/-- `CMP ($nn),Y` as one transition (R212). -/
def execCmpDpIndY (off : Byte) (s : State) : Host.Outcome State Fault Refusal :=
  runInstr 0xD1#8 progCmpDpIndY [off] s

/-- CMP `CMP ($nn)`, opcode 0xD2 (R233, R163). -/
def progCmpDpInd (r : Regs) : Prog := readM .dpInd r cmpOp
/-- `CMP ($nn)` as one transition (R212). -/
def execCmpDpInd (off : Byte) (s : State) : Host.Outcome State Fault Refusal :=
  runInstr 0xD2#8 progCmpDpInd [off] s

/-- CMP `CMP ($nn,S),Y`, opcode 0xD3 (R233, R174). -/
def progCmpSrIndY (r : Regs) : Prog := readM .srIndY r cmpOp
/-- `CMP ($nn,S),Y` as one transition (R212). -/
def execCmpSrIndY (off : Byte) (s : State) : Host.Outcome State Fault Refusal :=
  runInstr 0xD3#8 progCmpSrIndY [off] s

/-- CMP `CMP $nn,X`, opcode 0xD5 (R233, R161). -/
def progCmpDpX (r : Regs) : Prog := readM .dpX r cmpOp
/-- `CMP $nn,X` as one transition (R212). -/
def execCmpDpX (off : Byte) (s : State) : Host.Outcome State Fault Refusal :=
  runInstr 0xD5#8 progCmpDpX [off] s

/-- CMP `CMP [$nn],Y`, opcode 0xD7 (R233, R167). -/
def progCmpDpLongY (r : Regs) : Prog := readM .dpLongY r cmpOp
/-- `CMP [$nn],Y` as one transition (R212). -/
def execCmpDpLongY (off : Byte) (s : State) : Host.Outcome State Fault Refusal :=
  runInstr 0xD7#8 progCmpDpLongY [off] s

/-- CMP `CMP $nnnn,Y`, opcode 0xD9 (R233, R170). -/
def progCmpAbsY (r : Regs) : Prog := readM .absY r cmpOp
/-- `CMP $nnnn,Y` as one transition (R212). -/
def execCmpAbsY (aa : Word) (s : State) : Host.Outcome State Fault Refusal :=
  runInstr 0xD9#8 progCmpAbsY (bytesW aa) s

/-- CMP `CMP $nnnn,X`, opcode 0xDD (R233, R169). -/
def progCmpAbsX (r : Regs) : Prog := readM .absX r cmpOp
/-- `CMP $nnnn,X` as one transition (R212). -/
def execCmpAbsX (aa : Word) (s : State) : Host.Outcome State Fault Refusal :=
  runInstr 0xDD#8 progCmpAbsX (bytesW aa) s

/-- CMP `CMP $nnnnnn,X`, opcode 0xDF (R233, R172). -/
def progCmpLongX (r : Regs) : Prog := readM .longX r cmpOp
/-- `CMP $nnnnnn,X` as one transition (R212). -/
def execCmpLongX (al : Addr) (s : State) : Host.Outcome State Fault Refusal :=
  runInstr 0xDF#8 progCmpLongX (bytesL al) s

/-- CPX `CPX #`, opcode 0xE0 (R234, R159). -/
def progCpxImm (r : Regs) : Prog := immX r cpxOp
/-- `CPX #` as one transition (R212). -/
def execCpxImm (imm : Imm) (s : State) : Host.Outcome State Fault Refusal :=
  runInstr 0xE0#8 progCpxImm (immBytes imm) s

/-- CPX `CPX $nn`, opcode 0xE4 (R234, R160). -/
def progCpxDp (r : Regs) : Prog := readX .dp r cpxOp
/-- `CPX $nn` as one transition (R212). -/
def execCpxDp (off : Byte) (s : State) : Host.Outcome State Fault Refusal :=
  runInstr 0xE4#8 progCpxDp [off] s

/-- CPX `CPX $nnnn`, opcode 0xEC (R234, R168). -/
def progCpxAbs (r : Regs) : Prog := readX .abs r cpxOp
/-- `CPX $nnnn` as one transition (R212). -/
def execCpxAbs (aa : Word) (s : State) : Host.Outcome State Fault Refusal :=
  runInstr 0xEC#8 progCpxAbs (bytesW aa) s

/-- CPY `CPY #`, opcode 0xC0 (R235, R159). -/
def progCpyImm (r : Regs) : Prog := immX r cpyOp
/-- `CPY #` as one transition (R212). -/
def execCpyImm (imm : Imm) (s : State) : Host.Outcome State Fault Refusal :=
  runInstr 0xC0#8 progCpyImm (immBytes imm) s

/-- CPY `CPY $nn`, opcode 0xC4 (R235, R160). -/
def progCpyDp (r : Regs) : Prog := readX .dp r cpyOp
/-- `CPY $nn` as one transition (R212). -/
def execCpyDp (off : Byte) (s : State) : Host.Outcome State Fault Refusal :=
  runInstr 0xC4#8 progCpyDp [off] s

/-- CPY `CPY $nnnn`, opcode 0xCC (R235, R168). -/
def progCpyAbs (r : Regs) : Prog := readX .abs r cpyOp
/-- `CPY $nnnn` as one transition (R212). -/
def execCpyAbs (aa : Word) (s : State) : Host.Outcome State Fault Refusal :=
  runInstr 0xCC#8 progCpyAbs (bytesW aa) s

/-- AND `AND ($nn,X)`, opcode 0x21 (R236, R164). -/
def progAndDpXInd (r : Regs) : Prog := readM .dpXInd r andOp
/-- `AND ($nn,X)` as one transition (R212). -/
def execAndDpXInd (off : Byte) (s : State) : Host.Outcome State Fault Refusal :=
  runInstr 0x21#8 progAndDpXInd [off] s

/-- AND `AND $nn,S`, opcode 0x23 (R236, R173). -/
def progAndSr (r : Regs) : Prog := readM .sr r andOp
/-- `AND $nn,S` as one transition (R212). -/
def execAndSr (off : Byte) (s : State) : Host.Outcome State Fault Refusal :=
  runInstr 0x23#8 progAndSr [off] s

/-- AND `AND $nn`, opcode 0x25 (R236, R160). -/
def progAndDp (r : Regs) : Prog := readM .dp r andOp
/-- `AND $nn` as one transition (R212). -/
def execAndDp (off : Byte) (s : State) : Host.Outcome State Fault Refusal :=
  runInstr 0x25#8 progAndDp [off] s

/-- AND `AND [$nn]`, opcode 0x27 (R236, R166). -/
def progAndDpLong (r : Regs) : Prog := readM .dpLong r andOp
/-- `AND [$nn]` as one transition (R212). -/
def execAndDpLong (off : Byte) (s : State) : Host.Outcome State Fault Refusal :=
  runInstr 0x27#8 progAndDpLong [off] s

/-- AND `AND #`, opcode 0x29 (R236, R159). -/
def progAndImm (r : Regs) : Prog := immM r andOp
/-- `AND #` as one transition (R212). -/
def execAndImm (imm : Imm) (s : State) : Host.Outcome State Fault Refusal :=
  runInstr 0x29#8 progAndImm (immBytes imm) s

/-- AND `AND $nnnn`, opcode 0x2D (R236, R168). -/
def progAndAbs (r : Regs) : Prog := readM .abs r andOp
/-- `AND $nnnn` as one transition (R212). -/
def execAndAbs (aa : Word) (s : State) : Host.Outcome State Fault Refusal :=
  runInstr 0x2D#8 progAndAbs (bytesW aa) s

/-- AND `AND $nnnnnn`, opcode 0x2F (R236, R171). -/
def progAndLong (r : Regs) : Prog := readM .long r andOp
/-- `AND $nnnnnn` as one transition (R212). -/
def execAndLong (al : Addr) (s : State) : Host.Outcome State Fault Refusal :=
  runInstr 0x2F#8 progAndLong (bytesL al) s

/-- AND `AND ($nn),Y`, opcode 0x31 (R236, R165). -/
def progAndDpIndY (r : Regs) : Prog := readM .dpIndY r andOp
/-- `AND ($nn),Y` as one transition (R212). -/
def execAndDpIndY (off : Byte) (s : State) : Host.Outcome State Fault Refusal :=
  runInstr 0x31#8 progAndDpIndY [off] s

/-- AND `AND ($nn)`, opcode 0x32 (R236, R163). -/
def progAndDpInd (r : Regs) : Prog := readM .dpInd r andOp
/-- `AND ($nn)` as one transition (R212). -/
def execAndDpInd (off : Byte) (s : State) : Host.Outcome State Fault Refusal :=
  runInstr 0x32#8 progAndDpInd [off] s

/-- AND `AND ($nn,S),Y`, opcode 0x33 (R236, R174). -/
def progAndSrIndY (r : Regs) : Prog := readM .srIndY r andOp
/-- `AND ($nn,S),Y` as one transition (R212). -/
def execAndSrIndY (off : Byte) (s : State) : Host.Outcome State Fault Refusal :=
  runInstr 0x33#8 progAndSrIndY [off] s

/-- AND `AND $nn,X`, opcode 0x35 (R236, R161). -/
def progAndDpX (r : Regs) : Prog := readM .dpX r andOp
/-- `AND $nn,X` as one transition (R212). -/
def execAndDpX (off : Byte) (s : State) : Host.Outcome State Fault Refusal :=
  runInstr 0x35#8 progAndDpX [off] s

/-- AND `AND [$nn],Y`, opcode 0x37 (R236, R167). -/
def progAndDpLongY (r : Regs) : Prog := readM .dpLongY r andOp
/-- `AND [$nn],Y` as one transition (R212). -/
def execAndDpLongY (off : Byte) (s : State) : Host.Outcome State Fault Refusal :=
  runInstr 0x37#8 progAndDpLongY [off] s

/-- AND `AND $nnnn,Y`, opcode 0x39 (R236, R170). -/
def progAndAbsY (r : Regs) : Prog := readM .absY r andOp
/-- `AND $nnnn,Y` as one transition (R212). -/
def execAndAbsY (aa : Word) (s : State) : Host.Outcome State Fault Refusal :=
  runInstr 0x39#8 progAndAbsY (bytesW aa) s

/-- AND `AND $nnnn,X`, opcode 0x3D (R236, R169). -/
def progAndAbsX (r : Regs) : Prog := readM .absX r andOp
/-- `AND $nnnn,X` as one transition (R212). -/
def execAndAbsX (aa : Word) (s : State) : Host.Outcome State Fault Refusal :=
  runInstr 0x3D#8 progAndAbsX (bytesW aa) s

/-- AND `AND $nnnnnn,X`, opcode 0x3F (R236, R172). -/
def progAndLongX (r : Regs) : Prog := readM .longX r andOp
/-- `AND $nnnnnn,X` as one transition (R212). -/
def execAndLongX (al : Addr) (s : State) : Host.Outcome State Fault Refusal :=
  runInstr 0x3F#8 progAndLongX (bytesL al) s

/-- ORA `ORA ($nn,X)`, opcode 0x01 (R237, R164). -/
def progOraDpXInd (r : Regs) : Prog := readM .dpXInd r oraOp
/-- `ORA ($nn,X)` as one transition (R212). -/
def execOraDpXInd (off : Byte) (s : State) : Host.Outcome State Fault Refusal :=
  runInstr 0x01#8 progOraDpXInd [off] s

/-- ORA `ORA $nn,S`, opcode 0x03 (R237, R173). -/
def progOraSr (r : Regs) : Prog := readM .sr r oraOp
/-- `ORA $nn,S` as one transition (R212). -/
def execOraSr (off : Byte) (s : State) : Host.Outcome State Fault Refusal :=
  runInstr 0x03#8 progOraSr [off] s

/-- ORA `ORA $nn`, opcode 0x05 (R237, R160). -/
def progOraDp (r : Regs) : Prog := readM .dp r oraOp
/-- `ORA $nn` as one transition (R212). -/
def execOraDp (off : Byte) (s : State) : Host.Outcome State Fault Refusal :=
  runInstr 0x05#8 progOraDp [off] s

/-- ORA `ORA [$nn]`, opcode 0x07 (R237, R166). -/
def progOraDpLong (r : Regs) : Prog := readM .dpLong r oraOp
/-- `ORA [$nn]` as one transition (R212). -/
def execOraDpLong (off : Byte) (s : State) : Host.Outcome State Fault Refusal :=
  runInstr 0x07#8 progOraDpLong [off] s

/-- ORA `ORA #`, opcode 0x09 (R237, R159). -/
def progOraImm (r : Regs) : Prog := immM r oraOp
/-- `ORA #` as one transition (R212). -/
def execOraImm (imm : Imm) (s : State) : Host.Outcome State Fault Refusal :=
  runInstr 0x09#8 progOraImm (immBytes imm) s

/-- ORA `ORA $nnnn`, opcode 0x0D (R237, R168). -/
def progOraAbs (r : Regs) : Prog := readM .abs r oraOp
/-- `ORA $nnnn` as one transition (R212). -/
def execOraAbs (aa : Word) (s : State) : Host.Outcome State Fault Refusal :=
  runInstr 0x0D#8 progOraAbs (bytesW aa) s

/-- ORA `ORA $nnnnnn`, opcode 0x0F (R237, R171). -/
def progOraLong (r : Regs) : Prog := readM .long r oraOp
/-- `ORA $nnnnnn` as one transition (R212). -/
def execOraLong (al : Addr) (s : State) : Host.Outcome State Fault Refusal :=
  runInstr 0x0F#8 progOraLong (bytesL al) s

/-- ORA `ORA ($nn),Y`, opcode 0x11 (R237, R165). -/
def progOraDpIndY (r : Regs) : Prog := readM .dpIndY r oraOp
/-- `ORA ($nn),Y` as one transition (R212). -/
def execOraDpIndY (off : Byte) (s : State) : Host.Outcome State Fault Refusal :=
  runInstr 0x11#8 progOraDpIndY [off] s

/-- ORA `ORA ($nn)`, opcode 0x12 (R237, R163). -/
def progOraDpInd (r : Regs) : Prog := readM .dpInd r oraOp
/-- `ORA ($nn)` as one transition (R212). -/
def execOraDpInd (off : Byte) (s : State) : Host.Outcome State Fault Refusal :=
  runInstr 0x12#8 progOraDpInd [off] s

/-- ORA `ORA ($nn,S),Y`, opcode 0x13 (R237, R174). -/
def progOraSrIndY (r : Regs) : Prog := readM .srIndY r oraOp
/-- `ORA ($nn,S),Y` as one transition (R212). -/
def execOraSrIndY (off : Byte) (s : State) : Host.Outcome State Fault Refusal :=
  runInstr 0x13#8 progOraSrIndY [off] s

/-- ORA `ORA $nn,X`, opcode 0x15 (R237, R161). -/
def progOraDpX (r : Regs) : Prog := readM .dpX r oraOp
/-- `ORA $nn,X` as one transition (R212). -/
def execOraDpX (off : Byte) (s : State) : Host.Outcome State Fault Refusal :=
  runInstr 0x15#8 progOraDpX [off] s

/-- ORA `ORA [$nn],Y`, opcode 0x17 (R237, R167). -/
def progOraDpLongY (r : Regs) : Prog := readM .dpLongY r oraOp
/-- `ORA [$nn],Y` as one transition (R212). -/
def execOraDpLongY (off : Byte) (s : State) : Host.Outcome State Fault Refusal :=
  runInstr 0x17#8 progOraDpLongY [off] s

/-- ORA `ORA $nnnn,Y`, opcode 0x19 (R237, R170). -/
def progOraAbsY (r : Regs) : Prog := readM .absY r oraOp
/-- `ORA $nnnn,Y` as one transition (R212). -/
def execOraAbsY (aa : Word) (s : State) : Host.Outcome State Fault Refusal :=
  runInstr 0x19#8 progOraAbsY (bytesW aa) s

/-- ORA `ORA $nnnn,X`, opcode 0x1D (R237, R169). -/
def progOraAbsX (r : Regs) : Prog := readM .absX r oraOp
/-- `ORA $nnnn,X` as one transition (R212). -/
def execOraAbsX (aa : Word) (s : State) : Host.Outcome State Fault Refusal :=
  runInstr 0x1D#8 progOraAbsX (bytesW aa) s

/-- ORA `ORA $nnnnnn,X`, opcode 0x1F (R237, R172). -/
def progOraLongX (r : Regs) : Prog := readM .longX r oraOp
/-- `ORA $nnnnnn,X` as one transition (R212). -/
def execOraLongX (al : Addr) (s : State) : Host.Outcome State Fault Refusal :=
  runInstr 0x1F#8 progOraLongX (bytesL al) s

/-- EOR `EOR ($nn,X)`, opcode 0x41 (R238, R164). -/
def progEorDpXInd (r : Regs) : Prog := readM .dpXInd r eorOp
/-- `EOR ($nn,X)` as one transition (R212). -/
def execEorDpXInd (off : Byte) (s : State) : Host.Outcome State Fault Refusal :=
  runInstr 0x41#8 progEorDpXInd [off] s

/-- EOR `EOR $nn,S`, opcode 0x43 (R238, R173). -/
def progEorSr (r : Regs) : Prog := readM .sr r eorOp
/-- `EOR $nn,S` as one transition (R212). -/
def execEorSr (off : Byte) (s : State) : Host.Outcome State Fault Refusal :=
  runInstr 0x43#8 progEorSr [off] s

/-- EOR `EOR $nn`, opcode 0x45 (R238, R160). -/
def progEorDp (r : Regs) : Prog := readM .dp r eorOp
/-- `EOR $nn` as one transition (R212). -/
def execEorDp (off : Byte) (s : State) : Host.Outcome State Fault Refusal :=
  runInstr 0x45#8 progEorDp [off] s

/-- EOR `EOR [$nn]`, opcode 0x47 (R238, R166). -/
def progEorDpLong (r : Regs) : Prog := readM .dpLong r eorOp
/-- `EOR [$nn]` as one transition (R212). -/
def execEorDpLong (off : Byte) (s : State) : Host.Outcome State Fault Refusal :=
  runInstr 0x47#8 progEorDpLong [off] s

/-- EOR `EOR #`, opcode 0x49 (R238, R159). -/
def progEorImm (r : Regs) : Prog := immM r eorOp
/-- `EOR #` as one transition (R212). -/
def execEorImm (imm : Imm) (s : State) : Host.Outcome State Fault Refusal :=
  runInstr 0x49#8 progEorImm (immBytes imm) s

/-- EOR `EOR $nnnn`, opcode 0x4D (R238, R168). -/
def progEorAbs (r : Regs) : Prog := readM .abs r eorOp
/-- `EOR $nnnn` as one transition (R212). -/
def execEorAbs (aa : Word) (s : State) : Host.Outcome State Fault Refusal :=
  runInstr 0x4D#8 progEorAbs (bytesW aa) s

/-- EOR `EOR $nnnnnn`, opcode 0x4F (R238, R171). -/
def progEorLong (r : Regs) : Prog := readM .long r eorOp
/-- `EOR $nnnnnn` as one transition (R212). -/
def execEorLong (al : Addr) (s : State) : Host.Outcome State Fault Refusal :=
  runInstr 0x4F#8 progEorLong (bytesL al) s

/-- EOR `EOR ($nn),Y`, opcode 0x51 (R238, R165). -/
def progEorDpIndY (r : Regs) : Prog := readM .dpIndY r eorOp
/-- `EOR ($nn),Y` as one transition (R212). -/
def execEorDpIndY (off : Byte) (s : State) : Host.Outcome State Fault Refusal :=
  runInstr 0x51#8 progEorDpIndY [off] s

/-- EOR `EOR ($nn)`, opcode 0x52 (R238, R163). -/
def progEorDpInd (r : Regs) : Prog := readM .dpInd r eorOp
/-- `EOR ($nn)` as one transition (R212). -/
def execEorDpInd (off : Byte) (s : State) : Host.Outcome State Fault Refusal :=
  runInstr 0x52#8 progEorDpInd [off] s

/-- EOR `EOR ($nn,S),Y`, opcode 0x53 (R238, R174). -/
def progEorSrIndY (r : Regs) : Prog := readM .srIndY r eorOp
/-- `EOR ($nn,S),Y` as one transition (R212). -/
def execEorSrIndY (off : Byte) (s : State) : Host.Outcome State Fault Refusal :=
  runInstr 0x53#8 progEorSrIndY [off] s

/-- EOR `EOR $nn,X`, opcode 0x55 (R238, R161). -/
def progEorDpX (r : Regs) : Prog := readM .dpX r eorOp
/-- `EOR $nn,X` as one transition (R212). -/
def execEorDpX (off : Byte) (s : State) : Host.Outcome State Fault Refusal :=
  runInstr 0x55#8 progEorDpX [off] s

/-- EOR `EOR [$nn],Y`, opcode 0x57 (R238, R167). -/
def progEorDpLongY (r : Regs) : Prog := readM .dpLongY r eorOp
/-- `EOR [$nn],Y` as one transition (R212). -/
def execEorDpLongY (off : Byte) (s : State) : Host.Outcome State Fault Refusal :=
  runInstr 0x57#8 progEorDpLongY [off] s

/-- EOR `EOR $nnnn,Y`, opcode 0x59 (R238, R170). -/
def progEorAbsY (r : Regs) : Prog := readM .absY r eorOp
/-- `EOR $nnnn,Y` as one transition (R212). -/
def execEorAbsY (aa : Word) (s : State) : Host.Outcome State Fault Refusal :=
  runInstr 0x59#8 progEorAbsY (bytesW aa) s

/-- EOR `EOR $nnnn,X`, opcode 0x5D (R238, R169). -/
def progEorAbsX (r : Regs) : Prog := readM .absX r eorOp
/-- `EOR $nnnn,X` as one transition (R212). -/
def execEorAbsX (aa : Word) (s : State) : Host.Outcome State Fault Refusal :=
  runInstr 0x5D#8 progEorAbsX (bytesW aa) s

/-- EOR `EOR $nnnnnn,X`, opcode 0x5F (R238, R172). -/
def progEorLongX (r : Regs) : Prog := readM .longX r eorOp
/-- `EOR $nnnnnn,X` as one transition (R212). -/
def execEorLongX (al : Addr) (s : State) : Host.Outcome State Fault Refusal :=
  runInstr 0x5F#8 progEorLongX (bytesL al) s

/-- BIT `BIT $nn`, opcode 0x24 (R239, R160). -/
def progBitDp (r : Regs) : Prog := readM .dp r bitOp
/-- `BIT $nn` as one transition (R212). -/
def execBitDp (off : Byte) (s : State) : Host.Outcome State Fault Refusal :=
  runInstr 0x24#8 progBitDp [off] s

/-- BIT `BIT $nnnn`, opcode 0x2C (R239, R168). -/
def progBitAbs (r : Regs) : Prog := readM .abs r bitOp
/-- `BIT $nnnn` as one transition (R212). -/
def execBitAbs (aa : Word) (s : State) : Host.Outcome State Fault Refusal :=
  runInstr 0x2C#8 progBitAbs (bytesW aa) s

/-- BIT `BIT $nn,X`, opcode 0x34 (R239, R161). -/
def progBitDpX (r : Regs) : Prog := readM .dpX r bitOp
/-- `BIT $nn,X` as one transition (R212). -/
def execBitDpX (off : Byte) (s : State) : Host.Outcome State Fault Refusal :=
  runInstr 0x34#8 progBitDpX [off] s

/-- BIT `BIT $nnnn,X`, opcode 0x3C (R239, R169). -/
def progBitAbsX (r : Regs) : Prog := readM .absX r bitOp
/-- `BIT $nnnn,X` as one transition (R212). -/
def execBitAbsX (aa : Word) (s : State) : Host.Outcome State Fault Refusal :=
  runInstr 0x3C#8 progBitAbsX (bytesW aa) s

/-- BIT `BIT #`, opcode 0x89 (R239, R159). -/
def progBitImm (r : Regs) : Prog := immM r bitImmOp
/-- `BIT #` as one transition (R212). -/
def execBitImm (imm : Imm) (s : State) : Host.Outcome State Fault Refusal :=
  runInstr 0x89#8 progBitImm (immBytes imm) s

end Sys2Proof.Machine
end

