-- ==== Sys2Proof/Machine/ControlFlow.lean ====
section
/-! DEFINITION. The branches, BRL, JMP, JML, JSR, JSL, RTS and RTL (48_control_flow.md). -/

namespace Sys2Proof.Machine

/-- The branch table (R390): the displacement is always read; a taken branch has an Internal cycle for the PC update,
and a second one when in emulation mode the target lies in another page than the next instruction. -/
def branch (taken : Bool) (r : Regs) : Prog :=
  if taken then
    fetchByte r fun b r =>
      let t := r.pc + sext b
      if r.fE && hi8 t != hi8 r.pc then idle { r with pc := t } (.idleLast { r with pc := t })
      else .idleLast { r with pc := t }
  else .readLast .stream r.codeAddr r.incPc none

/-- BRL (R400). -/
def branchLong (r : Regs) : Prog := fetchWord r fun rel r => .idleLast { r with pc := r.pc + rel }

/-- JMP absolute (R401). -/
def jumpAbs (r : Regs) : Prog :=
  fetchByte r fun lo r =>
    .readLast .stream r.codeAddr r.incPc (some fun hi => .ok { r.incPc with pc := word hi lo })

/-- JML absolute long (R402). -/
def jumpLong (r : Regs) : Prog :=
  fetchWord r fun aa r =>
    .readLast .stream r.codeAddr r.incPc (some fun bank => .ok { r.incPc with pb := bank, pc := aa })

/-- The last two rows of a jump through a 16-bit pointer (R403, R404, R407). -/
def jumpThrough (bank : Byte) (p : Word) (r : Regs) : Prog :=
  readByte (addr bank p) r fun lo =>
    .readLast .data (addr bank (p + 1#16)) r (some fun hi => .ok { r with pc := word hi lo })

/-- JMP absolute indirect (R403): the pointer is in bank 0. -/
def jumpInd (r : Regs) : Prog := fetchWord r fun aa r => jumpThrough 0x00#8 aa r

/-- JMP absolute indexed indirect (R404): the pointer is in bank PB. -/
def jumpXInd (r : Regs) : Prog := fetchWord r fun aa r => idle r (jumpThrough r.pb (aa + r.x) r)

/-- JML absolute indirect long (R405): a 24-bit pointer in bank 0. -/
def jumpIndLong (r : Regs) : Prog :=
  fetchWord r fun aa r => readPtr aa r fun pc =>
    .readLast .data (addr 0x00#8 (aa + 2#16)) r (some fun bank => .ok { r with pb := bank, pc := pc })

/-- JSR absolute (R406): the return address is PC0 +16 2. -/
def callAbs (r : Regs) : Prog :=
  let ret := r.pc - 1#16 + 2#16
  fetchWord r fun aa r => idle r (push16Last ret r fun r => { r with pc := aa })

/-- JSR absolute indexed indirect (R407): the high address byte is read after the pushes. -/
def callXInd (r : Regs) : Prog :=
  let ret := r.pc - 1#16 + 2#16
  fetchByte r fun lo r => push (hi8 ret) r fun r => push (lo8 ret) r fun r => fetchByte r fun hi r =>
    idle r (jumpThrough r.pb (word hi lo + r.x) r)

/-- JSL (R408): PB is pushed first; the bank byte is read after that push; the return address is PC0 +16 3. -/
def callLong (r : Regs) : Prog :=
  let ret := r.pc - 1#16 + 3#16
  fetchWord r fun aa r => push r.pb r fun r => idle r (fetchByte r fun bank r =>
    push16Last ret r fun r => { r with pb := bank, pc := aa })

/-- RTS (R409). -/
def returnShort (r : Regs) : Prog :=
  idle r (idle r (pull r fun lo r => pull r fun hi r => .idleLast { r with pc := word hi lo + 1#16 }))

/-- RTL (R410): no trailing Internal cycle. -/
def returnLong (r : Regs) : Prog :=
  idle r (idle r (pull r fun lo r => pull r fun hi r =>
    pullLast r fun bank r => { r with pb := bank, pc := word hi lo + 1#16 }))

/-- BPL `BPL label`, opcode 0x10 (R391). -/
def progBpl (r : Regs) : Prog := branch (!r.fN) r
/-- `BPL label` as one transition (R212). -/
def execBpl (rel : Byte) (s : State) : Host.Outcome State Fault Refusal :=
  runInstr 0x10#8 progBpl [rel] s

/-- BMI `BMI label`, opcode 0x30 (R392). -/
def progBmi (r : Regs) : Prog := branch r.fN r
/-- `BMI label` as one transition (R212). -/
def execBmi (rel : Byte) (s : State) : Host.Outcome State Fault Refusal :=
  runInstr 0x30#8 progBmi [rel] s

/-- BVC `BVC label`, opcode 0x50 (R393). -/
def progBvc (r : Regs) : Prog := branch (!r.fV) r
/-- `BVC label` as one transition (R212). -/
def execBvc (rel : Byte) (s : State) : Host.Outcome State Fault Refusal :=
  runInstr 0x50#8 progBvc [rel] s

/-- BVS `BVS label`, opcode 0x70 (R394). -/
def progBvs (r : Regs) : Prog := branch r.fV r
/-- `BVS label` as one transition (R212). -/
def execBvs (rel : Byte) (s : State) : Host.Outcome State Fault Refusal :=
  runInstr 0x70#8 progBvs [rel] s

/-- BCC `BCC label`, opcode 0x90 (R395). -/
def progBcc (r : Regs) : Prog := branch (!r.fC) r
/-- `BCC label` as one transition (R212). -/
def execBcc (rel : Byte) (s : State) : Host.Outcome State Fault Refusal :=
  runInstr 0x90#8 progBcc [rel] s

/-- BCS `BCS label`, opcode 0xB0 (R396). -/
def progBcs (r : Regs) : Prog := branch r.fC r
/-- `BCS label` as one transition (R212). -/
def execBcs (rel : Byte) (s : State) : Host.Outcome State Fault Refusal :=
  runInstr 0xB0#8 progBcs [rel] s

/-- BNE `BNE label`, opcode 0xD0 (R397). -/
def progBne (r : Regs) : Prog := branch (!r.fZ) r
/-- `BNE label` as one transition (R212). -/
def execBne (rel : Byte) (s : State) : Host.Outcome State Fault Refusal :=
  runInstr 0xD0#8 progBne [rel] s

/-- BEQ `BEQ label`, opcode 0xF0 (R398). -/
def progBeq (r : Regs) : Prog := branch r.fZ r
/-- `BEQ label` as one transition (R212). -/
def execBeq (rel : Byte) (s : State) : Host.Outcome State Fault Refusal :=
  runInstr 0xF0#8 progBeq [rel] s

/-- BRA `BRA label`, opcode 0x80 (R399). -/
def progBra (r : Regs) : Prog := branch true r
/-- `BRA label` as one transition (R212). -/
def execBra (rel : Byte) (s : State) : Host.Outcome State Fault Refusal :=
  runInstr 0x80#8 progBra [rel] s

/-- BRL `BRL label`, opcode 0x82 (R400). -/
def progBrl (r : Regs) : Prog := branchLong r
/-- `BRL label` as one transition (R212). -/
def execBrl (rel : Word) (s : State) : Host.Outcome State Fault Refusal :=
  runInstr 0x82#8 progBrl (bytesW rel) s

/-- JMP `JMP $nnnn`, opcode 0x4C (R401). -/
def progJmpAbs (r : Regs) : Prog := jumpAbs r
/-- `JMP $nnnn` as one transition (R212). -/
def execJmpAbs (aa : Word) (s : State) : Host.Outcome State Fault Refusal :=
  runInstr 0x4C#8 progJmpAbs (bytesW aa) s

/-- JMP `JMP ($nnnn)`, opcode 0x6C (R403). -/
def progJmpInd (r : Regs) : Prog := jumpInd r
/-- `JMP ($nnnn)` as one transition (R212). -/
def execJmpInd (aa : Word) (s : State) : Host.Outcome State Fault Refusal :=
  runInstr 0x6C#8 progJmpInd (bytesW aa) s

/-- JMP `JMP ($nnnn,X)`, opcode 0x7C (R404). -/
def progJmpXInd (r : Regs) : Prog := jumpXInd r
/-- `JMP ($nnnn,X)` as one transition (R212). -/
def execJmpXInd (aa : Word) (s : State) : Host.Outcome State Fault Refusal :=
  runInstr 0x7C#8 progJmpXInd (bytesW aa) s

/-- JML `JML $nnnnnn`, opcode 0x5C (R402). -/
def progJmlLong (r : Regs) : Prog := jumpLong r
/-- `JML $nnnnnn` as one transition (R212). -/
def execJmlLong (al : Addr) (s : State) : Host.Outcome State Fault Refusal :=
  runInstr 0x5C#8 progJmlLong (bytesL al) s

/-- JML `JML [$nnnn]`, opcode 0xDC (R405). -/
def progJmlIndLong (r : Regs) : Prog := jumpIndLong r
/-- `JML [$nnnn]` as one transition (R212). -/
def execJmlIndLong (aa : Word) (s : State) : Host.Outcome State Fault Refusal :=
  runInstr 0xDC#8 progJmlIndLong (bytesW aa) s

/-- JSR `JSR $nnnn`, opcode 0x20 (R406). -/
def progJsrAbs (r : Regs) : Prog := callAbs r
/-- `JSR $nnnn` as one transition (R212). -/
def execJsrAbs (aa : Word) (s : State) : Host.Outcome State Fault Refusal :=
  runInstr 0x20#8 progJsrAbs (bytesW aa) s

/-- JSR `JSR ($nnnn,X)`, opcode 0xFC (R407). -/
def progJsrXInd (r : Regs) : Prog := callXInd r
/-- `JSR ($nnnn,X)` as one transition (R212). -/
def execJsrXInd (aa : Word) (s : State) : Host.Outcome State Fault Refusal :=
  runInstr 0xFC#8 progJsrXInd (bytesW aa) s

/-- JSL `JSL $nnnnnn`, opcode 0x22 (R408). -/
def progJsl (r : Regs) : Prog := callLong r
/-- `JSL $nnnnnn` as one transition (R212). -/
def execJsl (al : Addr) (s : State) : Host.Outcome State Fault Refusal :=
  runInstr 0x22#8 progJsl (bytesL al) s

/-- RTS `RTS`, opcode 0x60 (R409). -/
def progRts (r : Regs) : Prog := returnShort r
/-- `RTS` as one transition (R212). -/
def execRts (s : State) : Host.Outcome State Fault Refusal :=
  runInstr 0x60#8 progRts [] s

/-- RTL `RTL`, opcode 0x6B (R410). -/
def progRtl (r : Regs) : Prog := returnLong r
/-- `RTL` as one transition (R212). -/
def execRtl (s : State) : Host.Outcome State Fault Refusal :=
  runInstr 0x6B#8 progRtl [] s

end Sys2Proof.Machine
end

