-- ==== Sys2Proof/Machine/Excluded.lean ====
section
/-! DEFINITION. BRK, COP, RTI, WDM, WAI and STP (49_excluded.md): each takes the fault `UnimplementedOpcode` after its
opcode fetch, whatever `IMPL_SET` is (R436). -/

namespace Sys2Proof.Machine

/-- BRK, opcode 0x00 (R430): not dispatched, the decode step raises the fault; the signature byte is never read. -/
def execBrk (_sig : Byte) (s : State) : Host.Outcome State Fault Refusal := .next (s.rejectOpcode 0x00#8)

/-- COP, opcode 0x02 (R431): not dispatched, the decode step raises the fault; the signature byte is never read. -/
def execCop (_sig : Byte) (s : State) : Host.Outcome State Fault Refusal := .next (s.rejectOpcode 0x02#8)

/-- RTI, opcode 0x40 (R432): not dispatched, the decode step raises the fault. -/
def execRti (s : State) : Host.Outcome State Fault Refusal := .next (s.rejectOpcode 0x40#8)

/-- WDM, opcode 0x42 (R435): not dispatched, the decode step raises the fault; the signature byte is never read. -/
def execWdm (_sig : Byte) (s : State) : Host.Outcome State Fault Refusal := .next (s.rejectOpcode 0x42#8)

/-- WAI, opcode 0xCB (R433): not dispatched, the decode step raises the fault. -/
def execWai (s : State) : Host.Outcome State Fault Refusal := .next (s.rejectOpcode 0xCB#8)

/-- STP, opcode 0xDB (R434): not dispatched, the decode step raises the fault. -/
def execStp (s : State) : Host.Outcome State Fault Refusal := .next (s.rejectOpcode 0xDB#8)

end Sys2Proof.Machine
end

