-- ==== Sys2Proof/Machine/FlagsMode.lean ====
section
/-! DEFINITION. CLC, SEC, CLD, SED, CLI, SEI, CLV, REP, SEP, XCE and NOP (47_flags_mode.md). -/

namespace Sys2Proof.Machine

/-- REP and SEP (R367, R368): the mask byte, then an Internal cycle in which the status byte is written. -/
def statusMask (r : Regs) (f : Byte → Byte → Byte) : Prog :=
  fetchByte r fun k r => .idleLast (r.setP (f r.p k))

/-- XCE (R370): C and E exchanged; when E becomes or stays 1 emulation mode is entered. -/
def Regs.exchangeCE (r : Regs) : Regs :=
  let r' : Regs := { r with fC := r.fE, fE := r.fC }
  if r'.fE then r'.enterEmulation else r'

/-- CLC `CLC`, opcode 0x18 (R360, R176). -/
def progClc (r : Regs) : Prog := implied r fun r => { r with fC := false }
/-- `CLC` as one transition (R212). -/
def execClc (s : State) : Host.Outcome State Fault Refusal :=
  runInstr 0x18#8 progClc [] s

/-- SEC `SEC`, opcode 0x38 (R361, R176). -/
def progSec (r : Regs) : Prog := implied r fun r => { r with fC := true }
/-- `SEC` as one transition (R212). -/
def execSec (s : State) : Host.Outcome State Fault Refusal :=
  runInstr 0x38#8 progSec [] s

/-- CLD `CLD`, opcode 0xD8 (R362, R176). -/
def progCld (r : Regs) : Prog := implied r fun r => { r with fD := false }
/-- `CLD` as one transition (R212). -/
def execCld (s : State) : Host.Outcome State Fault Refusal :=
  runInstr 0xD8#8 progCld [] s

/-- SED `SED`, opcode 0xF8 (R363, R176). -/
def progSed (r : Regs) : Prog := implied r fun r => { r with fD := true }
/-- `SED` as one transition (R212). -/
def execSed (s : State) : Host.Outcome State Fault Refusal :=
  runInstr 0xF8#8 progSed [] s

/-- CLI `CLI`, opcode 0x58 (R364, R176). -/
def progCli (r : Regs) : Prog := implied r fun r => { r with fI := false }
/-- `CLI` as one transition (R212). -/
def execCli (s : State) : Host.Outcome State Fault Refusal :=
  runInstr 0x58#8 progCli [] s

/-- SEI `SEI`, opcode 0x78 (R365, R176). -/
def progSei (r : Regs) : Prog := implied r fun r => { r with fI := true }
/-- `SEI` as one transition (R212). -/
def execSei (s : State) : Host.Outcome State Fault Refusal :=
  runInstr 0x78#8 progSei [] s

/-- CLV `CLV`, opcode 0xB8 (R366, R176). -/
def progClv (r : Regs) : Prog := implied r fun r => { r with fV := false }
/-- `CLV` as one transition (R212). -/
def execClv (s : State) : Host.Outcome State Fault Refusal :=
  runInstr 0xB8#8 progClv [] s

/-- REP `REP #$nn`, opcode 0xC2 (R367). -/
def progRep (r : Regs) : Prog := statusMask r fun p k => p &&& ~~~k
/-- `REP #$nn` as one transition (R212). -/
def execRep (mask : Byte) (s : State) : Host.Outcome State Fault Refusal :=
  runInstr 0xC2#8 progRep [mask] s

/-- SEP `SEP #$nn`, opcode 0xE2 (R368). -/
def progSep (r : Regs) : Prog := statusMask r fun p k => p ||| k
/-- `SEP #$nn` as one transition (R212). -/
def execSep (mask : Byte) (s : State) : Host.Outcome State Fault Refusal :=
  runInstr 0xE2#8 progSep [mask] s

/-- XCE `XCE`, opcode 0xFB (R370, R176). -/
def progXce (r : Regs) : Prog := implied r Regs.exchangeCE
/-- `XCE` as one transition (R212). -/
def execXce (s : State) : Host.Outcome State Fault Refusal :=
  runInstr 0xFB#8 progXce [] s

/-- NOP `NOP`, opcode 0xEA (R372, R176). -/
def progNop (r : Regs) : Prog := implied r id
/-- `NOP` as one transition (R212). -/
def execNop (s : State) : Host.Outcome State Fault Refusal :=
  runInstr 0xEA#8 progNop [] s

end Sys2Proof.Machine
end

