-- ==== Sys2Proof/Machine/ShiftIncDec.lean ====
section
/-! DEFINITION. ASL, LSR, ROL, ROR, INC, DEC, TSB and TRB on the accumulator and on memory, and INX, INY, DEX and DEY
(44_shift_incdec.md). -/

namespace Sys2Proof.Machine

/-- The result of a shift or rotate with its flags C, Z and N (R261 to R264). -/
def shiftFlags {n : Nat} (o : ShiftOut n) (r : Regs) : BitVec n × Regs := (o.res, { r.setNZ o.res with fC := o.c })

/-- ASL (R261). -/
def aslOp : RmwOp := fun _ v r => shiftFlags (shl v) r
/-- LSR (R262). -/
def lsrOp : RmwOp := fun _ v r => shiftFlags (shr v) r
/-- ROL (R263). -/
def rolOp : RmwOp := fun _ v r => shiftFlags (rol v r.fC) r
/-- ROR (R264). -/
def rorOp : RmwOp := fun _ v r => shiftFlags (ror v r.fC) r
/-- INC (R265). -/
def incOp : RmwOp := fun _ v r => (inc v, r.setNZ (inc v))
/-- DEC (R266). -/
def decOp : RmwOp := fun _ v r => (dec v, r.setNZ (dec v))
/-- TSB (R271): Z from the bits before the set. -/
def tsbOp : RmwOp := fun n v r => (setBits (r.getA n) v, { r with fZ := testZ (r.getA n) v })
/-- TRB (R272): Z from the bits before the reset. -/
def trbOp : RmwOp := fun n v r => (resetBits (r.getA n) v, { r with fZ := testZ (r.getA n) v })

/-- A memory form of the RMW class at the width `wm` (R152, R260). -/
def rmwM (m : Mode) (r : Regs) (f : RmwOp) : Prog := resolve m .rmw r fun ea r => rmwPhase r.fM ea r f

/-- `X_w <- v` with Z and N (R267, R291, R310). -/
def Regs.loadX (r : Regs) {n : Nat} (v : BitVec n) : Regs := (r.setX v).setNZ v
/-- `Y_w <- v` with Z and N (R268, R292, R310). -/
def Regs.loadY (r : Regs) {n : Nat} (v : BitVec n) : Regs := (r.setY v).setNZ v

/-- ASL `ASL $nn`, opcode 0x06 (R261, R160). -/
def progAslDp (r : Regs) : Prog := rmwM .dp r aslOp
/-- `ASL $nn` as one transition (R212). -/
def execAslDp (off : Byte) (s : State) : Host.Outcome State Fault Refusal :=
  runInstr 0x06#8 progAslDp [off] s

/-- ASL `ASL A`, opcode 0x0A (R261, R175). -/
def progAslA (r : Regs) : Prog := accPhase r aslOp
/-- `ASL A` as one transition (R212). -/
def execAslA (s : State) : Host.Outcome State Fault Refusal :=
  runInstr 0x0A#8 progAslA [] s

/-- ASL `ASL $nnnn`, opcode 0x0E (R261, R168). -/
def progAslAbs (r : Regs) : Prog := rmwM .abs r aslOp
/-- `ASL $nnnn` as one transition (R212). -/
def execAslAbs (aa : Word) (s : State) : Host.Outcome State Fault Refusal :=
  runInstr 0x0E#8 progAslAbs (bytesW aa) s

/-- ASL `ASL $nn,X`, opcode 0x16 (R261, R161). -/
def progAslDpX (r : Regs) : Prog := rmwM .dpX r aslOp
/-- `ASL $nn,X` as one transition (R212). -/
def execAslDpX (off : Byte) (s : State) : Host.Outcome State Fault Refusal :=
  runInstr 0x16#8 progAslDpX [off] s

/-- ASL `ASL $nnnn,X`, opcode 0x1E (R261, R169). -/
def progAslAbsX (r : Regs) : Prog := rmwM .absX r aslOp
/-- `ASL $nnnn,X` as one transition (R212). -/
def execAslAbsX (aa : Word) (s : State) : Host.Outcome State Fault Refusal :=
  runInstr 0x1E#8 progAslAbsX (bytesW aa) s

/-- LSR `LSR $nn`, opcode 0x46 (R262, R160). -/
def progLsrDp (r : Regs) : Prog := rmwM .dp r lsrOp
/-- `LSR $nn` as one transition (R212). -/
def execLsrDp (off : Byte) (s : State) : Host.Outcome State Fault Refusal :=
  runInstr 0x46#8 progLsrDp [off] s

/-- LSR `LSR A`, opcode 0x4A (R262, R175). -/
def progLsrA (r : Regs) : Prog := accPhase r lsrOp
/-- `LSR A` as one transition (R212). -/
def execLsrA (s : State) : Host.Outcome State Fault Refusal :=
  runInstr 0x4A#8 progLsrA [] s

/-- LSR `LSR $nnnn`, opcode 0x4E (R262, R168). -/
def progLsrAbs (r : Regs) : Prog := rmwM .abs r lsrOp
/-- `LSR $nnnn` as one transition (R212). -/
def execLsrAbs (aa : Word) (s : State) : Host.Outcome State Fault Refusal :=
  runInstr 0x4E#8 progLsrAbs (bytesW aa) s

/-- LSR `LSR $nn,X`, opcode 0x56 (R262, R161). -/
def progLsrDpX (r : Regs) : Prog := rmwM .dpX r lsrOp
/-- `LSR $nn,X` as one transition (R212). -/
def execLsrDpX (off : Byte) (s : State) : Host.Outcome State Fault Refusal :=
  runInstr 0x56#8 progLsrDpX [off] s

/-- LSR `LSR $nnnn,X`, opcode 0x5E (R262, R169). -/
def progLsrAbsX (r : Regs) : Prog := rmwM .absX r lsrOp
/-- `LSR $nnnn,X` as one transition (R212). -/
def execLsrAbsX (aa : Word) (s : State) : Host.Outcome State Fault Refusal :=
  runInstr 0x5E#8 progLsrAbsX (bytesW aa) s

/-- ROL `ROL $nn`, opcode 0x26 (R263, R160). -/
def progRolDp (r : Regs) : Prog := rmwM .dp r rolOp
/-- `ROL $nn` as one transition (R212). -/
def execRolDp (off : Byte) (s : State) : Host.Outcome State Fault Refusal :=
  runInstr 0x26#8 progRolDp [off] s

/-- ROL `ROL A`, opcode 0x2A (R263, R175). -/
def progRolA (r : Regs) : Prog := accPhase r rolOp
/-- `ROL A` as one transition (R212). -/
def execRolA (s : State) : Host.Outcome State Fault Refusal :=
  runInstr 0x2A#8 progRolA [] s

/-- ROL `ROL $nnnn`, opcode 0x2E (R263, R168). -/
def progRolAbs (r : Regs) : Prog := rmwM .abs r rolOp
/-- `ROL $nnnn` as one transition (R212). -/
def execRolAbs (aa : Word) (s : State) : Host.Outcome State Fault Refusal :=
  runInstr 0x2E#8 progRolAbs (bytesW aa) s

/-- ROL `ROL $nn,X`, opcode 0x36 (R263, R161). -/
def progRolDpX (r : Regs) : Prog := rmwM .dpX r rolOp
/-- `ROL $nn,X` as one transition (R212). -/
def execRolDpX (off : Byte) (s : State) : Host.Outcome State Fault Refusal :=
  runInstr 0x36#8 progRolDpX [off] s

/-- ROL `ROL $nnnn,X`, opcode 0x3E (R263, R169). -/
def progRolAbsX (r : Regs) : Prog := rmwM .absX r rolOp
/-- `ROL $nnnn,X` as one transition (R212). -/
def execRolAbsX (aa : Word) (s : State) : Host.Outcome State Fault Refusal :=
  runInstr 0x3E#8 progRolAbsX (bytesW aa) s

/-- ROR `ROR $nn`, opcode 0x66 (R264, R160). -/
def progRorDp (r : Regs) : Prog := rmwM .dp r rorOp
/-- `ROR $nn` as one transition (R212). -/
def execRorDp (off : Byte) (s : State) : Host.Outcome State Fault Refusal :=
  runInstr 0x66#8 progRorDp [off] s

/-- ROR `ROR A`, opcode 0x6A (R264, R175). -/
def progRorA (r : Regs) : Prog := accPhase r rorOp
/-- `ROR A` as one transition (R212). -/
def execRorA (s : State) : Host.Outcome State Fault Refusal :=
  runInstr 0x6A#8 progRorA [] s

/-- ROR `ROR $nnnn`, opcode 0x6E (R264, R168). -/
def progRorAbs (r : Regs) : Prog := rmwM .abs r rorOp
/-- `ROR $nnnn` as one transition (R212). -/
def execRorAbs (aa : Word) (s : State) : Host.Outcome State Fault Refusal :=
  runInstr 0x6E#8 progRorAbs (bytesW aa) s

/-- ROR `ROR $nn,X`, opcode 0x76 (R264, R161). -/
def progRorDpX (r : Regs) : Prog := rmwM .dpX r rorOp
/-- `ROR $nn,X` as one transition (R212). -/
def execRorDpX (off : Byte) (s : State) : Host.Outcome State Fault Refusal :=
  runInstr 0x76#8 progRorDpX [off] s

/-- ROR `ROR $nnnn,X`, opcode 0x7E (R264, R169). -/
def progRorAbsX (r : Regs) : Prog := rmwM .absX r rorOp
/-- `ROR $nnnn,X` as one transition (R212). -/
def execRorAbsX (aa : Word) (s : State) : Host.Outcome State Fault Refusal :=
  runInstr 0x7E#8 progRorAbsX (bytesW aa) s

/-- INC `INC A`, opcode 0x1A (R265, R175). -/
def progIncA (r : Regs) : Prog := accPhase r incOp
/-- `INC A` as one transition (R212). -/
def execIncA (s : State) : Host.Outcome State Fault Refusal :=
  runInstr 0x1A#8 progIncA [] s

/-- INC `INC $nn`, opcode 0xE6 (R265, R160). -/
def progIncDp (r : Regs) : Prog := rmwM .dp r incOp
/-- `INC $nn` as one transition (R212). -/
def execIncDp (off : Byte) (s : State) : Host.Outcome State Fault Refusal :=
  runInstr 0xE6#8 progIncDp [off] s

/-- INC `INC $nnnn`, opcode 0xEE (R265, R168). -/
def progIncAbs (r : Regs) : Prog := rmwM .abs r incOp
/-- `INC $nnnn` as one transition (R212). -/
def execIncAbs (aa : Word) (s : State) : Host.Outcome State Fault Refusal :=
  runInstr 0xEE#8 progIncAbs (bytesW aa) s

/-- INC `INC $nn,X`, opcode 0xF6 (R265, R161). -/
def progIncDpX (r : Regs) : Prog := rmwM .dpX r incOp
/-- `INC $nn,X` as one transition (R212). -/
def execIncDpX (off : Byte) (s : State) : Host.Outcome State Fault Refusal :=
  runInstr 0xF6#8 progIncDpX [off] s

/-- INC `INC $nnnn,X`, opcode 0xFE (R265, R169). -/
def progIncAbsX (r : Regs) : Prog := rmwM .absX r incOp
/-- `INC $nnnn,X` as one transition (R212). -/
def execIncAbsX (aa : Word) (s : State) : Host.Outcome State Fault Refusal :=
  runInstr 0xFE#8 progIncAbsX (bytesW aa) s

/-- DEC `DEC A`, opcode 0x3A (R266, R175). -/
def progDecA (r : Regs) : Prog := accPhase r decOp
/-- `DEC A` as one transition (R212). -/
def execDecA (s : State) : Host.Outcome State Fault Refusal :=
  runInstr 0x3A#8 progDecA [] s

/-- DEC `DEC $nn`, opcode 0xC6 (R266, R160). -/
def progDecDp (r : Regs) : Prog := rmwM .dp r decOp
/-- `DEC $nn` as one transition (R212). -/
def execDecDp (off : Byte) (s : State) : Host.Outcome State Fault Refusal :=
  runInstr 0xC6#8 progDecDp [off] s

/-- DEC `DEC $nnnn`, opcode 0xCE (R266, R168). -/
def progDecAbs (r : Regs) : Prog := rmwM .abs r decOp
/-- `DEC $nnnn` as one transition (R212). -/
def execDecAbs (aa : Word) (s : State) : Host.Outcome State Fault Refusal :=
  runInstr 0xCE#8 progDecAbs (bytesW aa) s

/-- DEC `DEC $nn,X`, opcode 0xD6 (R266, R161). -/
def progDecDpX (r : Regs) : Prog := rmwM .dpX r decOp
/-- `DEC $nn,X` as one transition (R212). -/
def execDecDpX (off : Byte) (s : State) : Host.Outcome State Fault Refusal :=
  runInstr 0xD6#8 progDecDpX [off] s

/-- DEC `DEC $nnnn,X`, opcode 0xDE (R266, R169). -/
def progDecAbsX (r : Regs) : Prog := rmwM .absX r decOp
/-- `DEC $nnnn,X` as one transition (R212). -/
def execDecAbsX (aa : Word) (s : State) : Host.Outcome State Fault Refusal :=
  runInstr 0xDE#8 progDecAbsX (bytesW aa) s

/-- INX `INX`, opcode 0xE8 (R267, R176). -/
def progInx (r : Regs) : Prog := implied r fun r => r.atX fun n r => r.loadX (inc (r.getX n))
/-- `INX` as one transition (R212). -/
def execInx (s : State) : Host.Outcome State Fault Refusal :=
  runInstr 0xE8#8 progInx [] s

/-- INY `INY`, opcode 0xC8 (R268, R176). -/
def progIny (r : Regs) : Prog := implied r fun r => r.atX fun n r => r.loadY (inc (r.getY n))
/-- `INY` as one transition (R212). -/
def execIny (s : State) : Host.Outcome State Fault Refusal :=
  runInstr 0xC8#8 progIny [] s

/-- DEX `DEX`, opcode 0xCA (R269, R176). -/
def progDex (r : Regs) : Prog := implied r fun r => r.atX fun n r => r.loadX (dec (r.getX n))
/-- `DEX` as one transition (R212). -/
def execDex (s : State) : Host.Outcome State Fault Refusal :=
  runInstr 0xCA#8 progDex [] s

/-- DEY `DEY`, opcode 0x88 (R270, R176). -/
def progDey (r : Regs) : Prog := implied r fun r => r.atX fun n r => r.loadY (dec (r.getY n))
/-- `DEY` as one transition (R212). -/
def execDey (s : State) : Host.Outcome State Fault Refusal :=
  runInstr 0x88#8 progDey [] s

/-- TSB `TSB $nn`, opcode 0x04 (R271, R160). -/
def progTsbDp (r : Regs) : Prog := rmwM .dp r tsbOp
/-- `TSB $nn` as one transition (R212). -/
def execTsbDp (off : Byte) (s : State) : Host.Outcome State Fault Refusal :=
  runInstr 0x04#8 progTsbDp [off] s

/-- TSB `TSB $nnnn`, opcode 0x0C (R271, R168). -/
def progTsbAbs (r : Regs) : Prog := rmwM .abs r tsbOp
/-- `TSB $nnnn` as one transition (R212). -/
def execTsbAbs (aa : Word) (s : State) : Host.Outcome State Fault Refusal :=
  runInstr 0x0C#8 progTsbAbs (bytesW aa) s

/-- TRB `TRB $nn`, opcode 0x14 (R272, R160). -/
def progTrbDp (r : Regs) : Prog := rmwM .dp r trbOp
/-- `TRB $nn` as one transition (R212). -/
def execTrbDp (off : Byte) (s : State) : Host.Outcome State Fault Refusal :=
  runInstr 0x14#8 progTrbDp [off] s

/-- TRB `TRB $nnnn`, opcode 0x1C (R272, R168). -/
def progTrbAbs (r : Regs) : Prog := rmwM .abs r trbOp
/-- `TRB $nnnn` as one transition (R212). -/
def execTrbAbs (aa : Word) (s : State) : Host.Outcome State Fault Refusal :=
  runInstr 0x1C#8 progTrbAbs (bytesW aa) s

end Sys2Proof.Machine
end

