-- ==== Sys2Proof/Machine/LoadStore.lean ====
section
/-! DEFINITION. LDA, LDX, LDY, STA, STX, STY and STZ (45_load_store.md). -/

namespace Sys2Proof.Machine

/-- LDA (R290). -/
def ldaOp : ReadOp := fun _ b r => .ok (r.loadA b)
/-- LDX (R291). -/
def ldxOp : ReadOp := fun _ b r => .ok (r.loadX b)
/-- LDY (R292). -/
def ldyOp : ReadOp := fun _ b r => .ok (r.loadY b)

/-- A write-class instruction at the width `wm` (R152, R293, R296). -/
def storeM (m : Mode) (r : Regs) (v : Regs → Word) : Prog :=
  resolve m .write r fun ea r => writePhase r.fM ea (v r) r
/-- A write-class instruction at the width `wx` (R152, R294, R295). -/
def storeX (m : Mode) (r : Regs) (v : Regs → Word) : Prog :=
  resolve m .write r fun ea r => writePhase r.fX ea (v r) r

/-- LDA `LDA ($nn,X)`, opcode 0xA1 (R290, R164). -/
def progLdaDpXInd (r : Regs) : Prog := readM .dpXInd r ldaOp
/-- `LDA ($nn,X)` as one transition (R212). -/
def execLdaDpXInd (off : Byte) (s : State) : Host.Outcome State Fault Refusal :=
  runInstr 0xA1#8 progLdaDpXInd [off] s

/-- LDA `LDA $nn,S`, opcode 0xA3 (R290, R173). -/
def progLdaSr (r : Regs) : Prog := readM .sr r ldaOp
/-- `LDA $nn,S` as one transition (R212). -/
def execLdaSr (off : Byte) (s : State) : Host.Outcome State Fault Refusal :=
  runInstr 0xA3#8 progLdaSr [off] s

/-- LDA `LDA $nn`, opcode 0xA5 (R290, R160). -/
def progLdaDp (r : Regs) : Prog := readM .dp r ldaOp
/-- `LDA $nn` as one transition (R212). -/
def execLdaDp (off : Byte) (s : State) : Host.Outcome State Fault Refusal :=
  runInstr 0xA5#8 progLdaDp [off] s

/-- LDA `LDA [$nn]`, opcode 0xA7 (R290, R166). -/
def progLdaDpLong (r : Regs) : Prog := readM .dpLong r ldaOp
/-- `LDA [$nn]` as one transition (R212). -/
def execLdaDpLong (off : Byte) (s : State) : Host.Outcome State Fault Refusal :=
  runInstr 0xA7#8 progLdaDpLong [off] s

/-- LDA `LDA #`, opcode 0xA9 (R290, R159). -/
def progLdaImm (r : Regs) : Prog := immM r ldaOp
/-- `LDA #` as one transition (R212). -/
def execLdaImm (imm : Imm) (s : State) : Host.Outcome State Fault Refusal :=
  runInstr 0xA9#8 progLdaImm (immBytes imm) s

/-- LDA `LDA $nnnn`, opcode 0xAD (R290, R168). -/
def progLdaAbs (r : Regs) : Prog := readM .abs r ldaOp
/-- `LDA $nnnn` as one transition (R212). -/
def execLdaAbs (aa : Word) (s : State) : Host.Outcome State Fault Refusal :=
  runInstr 0xAD#8 progLdaAbs (bytesW aa) s

/-- LDA `LDA $nnnnnn`, opcode 0xAF (R290, R171). -/
def progLdaLong (r : Regs) : Prog := readM .long r ldaOp
/-- `LDA $nnnnnn` as one transition (R212). -/
def execLdaLong (al : Addr) (s : State) : Host.Outcome State Fault Refusal :=
  runInstr 0xAF#8 progLdaLong (bytesL al) s

/-- LDA `LDA ($nn),Y`, opcode 0xB1 (R290, R165). -/
def progLdaDpIndY (r : Regs) : Prog := readM .dpIndY r ldaOp
/-- `LDA ($nn),Y` as one transition (R212). -/
def execLdaDpIndY (off : Byte) (s : State) : Host.Outcome State Fault Refusal :=
  runInstr 0xB1#8 progLdaDpIndY [off] s

/-- LDA `LDA ($nn)`, opcode 0xB2 (R290, R163). -/
def progLdaDpInd (r : Regs) : Prog := readM .dpInd r ldaOp
/-- `LDA ($nn)` as one transition (R212). -/
def execLdaDpInd (off : Byte) (s : State) : Host.Outcome State Fault Refusal :=
  runInstr 0xB2#8 progLdaDpInd [off] s

/-- LDA `LDA ($nn,S),Y`, opcode 0xB3 (R290, R174). -/
def progLdaSrIndY (r : Regs) : Prog := readM .srIndY r ldaOp
/-- `LDA ($nn,S),Y` as one transition (R212). -/
def execLdaSrIndY (off : Byte) (s : State) : Host.Outcome State Fault Refusal :=
  runInstr 0xB3#8 progLdaSrIndY [off] s

/-- LDA `LDA $nn,X`, opcode 0xB5 (R290, R161). -/
def progLdaDpX (r : Regs) : Prog := readM .dpX r ldaOp
/-- `LDA $nn,X` as one transition (R212). -/
def execLdaDpX (off : Byte) (s : State) : Host.Outcome State Fault Refusal :=
  runInstr 0xB5#8 progLdaDpX [off] s

/-- LDA `LDA [$nn],Y`, opcode 0xB7 (R290, R167). -/
def progLdaDpLongY (r : Regs) : Prog := readM .dpLongY r ldaOp
/-- `LDA [$nn],Y` as one transition (R212). -/
def execLdaDpLongY (off : Byte) (s : State) : Host.Outcome State Fault Refusal :=
  runInstr 0xB7#8 progLdaDpLongY [off] s

/-- LDA `LDA $nnnn,Y`, opcode 0xB9 (R290, R170). -/
def progLdaAbsY (r : Regs) : Prog := readM .absY r ldaOp
/-- `LDA $nnnn,Y` as one transition (R212). -/
def execLdaAbsY (aa : Word) (s : State) : Host.Outcome State Fault Refusal :=
  runInstr 0xB9#8 progLdaAbsY (bytesW aa) s

/-- LDA `LDA $nnnn,X`, opcode 0xBD (R290, R169). -/
def progLdaAbsX (r : Regs) : Prog := readM .absX r ldaOp
/-- `LDA $nnnn,X` as one transition (R212). -/
def execLdaAbsX (aa : Word) (s : State) : Host.Outcome State Fault Refusal :=
  runInstr 0xBD#8 progLdaAbsX (bytesW aa) s

/-- LDA `LDA $nnnnnn,X`, opcode 0xBF (R290, R172). -/
def progLdaLongX (r : Regs) : Prog := readM .longX r ldaOp
/-- `LDA $nnnnnn,X` as one transition (R212). -/
def execLdaLongX (al : Addr) (s : State) : Host.Outcome State Fault Refusal :=
  runInstr 0xBF#8 progLdaLongX (bytesL al) s

/-- LDX `LDX #`, opcode 0xA2 (R291, R159). -/
def progLdxImm (r : Regs) : Prog := immX r ldxOp
/-- `LDX #` as one transition (R212). -/
def execLdxImm (imm : Imm) (s : State) : Host.Outcome State Fault Refusal :=
  runInstr 0xA2#8 progLdxImm (immBytes imm) s

/-- LDX `LDX $nn`, opcode 0xA6 (R291, R160). -/
def progLdxDp (r : Regs) : Prog := readX .dp r ldxOp
/-- `LDX $nn` as one transition (R212). -/
def execLdxDp (off : Byte) (s : State) : Host.Outcome State Fault Refusal :=
  runInstr 0xA6#8 progLdxDp [off] s

/-- LDX `LDX $nnnn`, opcode 0xAE (R291, R168). -/
def progLdxAbs (r : Regs) : Prog := readX .abs r ldxOp
/-- `LDX $nnnn` as one transition (R212). -/
def execLdxAbs (aa : Word) (s : State) : Host.Outcome State Fault Refusal :=
  runInstr 0xAE#8 progLdxAbs (bytesW aa) s

/-- LDX `LDX $nn,Y`, opcode 0xB6 (R291, R162). -/
def progLdxDpY (r : Regs) : Prog := readX .dpY r ldxOp
/-- `LDX $nn,Y` as one transition (R212). -/
def execLdxDpY (off : Byte) (s : State) : Host.Outcome State Fault Refusal :=
  runInstr 0xB6#8 progLdxDpY [off] s

/-- LDX `LDX $nnnn,Y`, opcode 0xBE (R291, R170). -/
def progLdxAbsY (r : Regs) : Prog := readX .absY r ldxOp
/-- `LDX $nnnn,Y` as one transition (R212). -/
def execLdxAbsY (aa : Word) (s : State) : Host.Outcome State Fault Refusal :=
  runInstr 0xBE#8 progLdxAbsY (bytesW aa) s

/-- LDY `LDY #`, opcode 0xA0 (R292, R159). -/
def progLdyImm (r : Regs) : Prog := immX r ldyOp
/-- `LDY #` as one transition (R212). -/
def execLdyImm (imm : Imm) (s : State) : Host.Outcome State Fault Refusal :=
  runInstr 0xA0#8 progLdyImm (immBytes imm) s

/-- LDY `LDY $nn`, opcode 0xA4 (R292, R160). -/
def progLdyDp (r : Regs) : Prog := readX .dp r ldyOp
/-- `LDY $nn` as one transition (R212). -/
def execLdyDp (off : Byte) (s : State) : Host.Outcome State Fault Refusal :=
  runInstr 0xA4#8 progLdyDp [off] s

/-- LDY `LDY $nnnn`, opcode 0xAC (R292, R168). -/
def progLdyAbs (r : Regs) : Prog := readX .abs r ldyOp
/-- `LDY $nnnn` as one transition (R212). -/
def execLdyAbs (aa : Word) (s : State) : Host.Outcome State Fault Refusal :=
  runInstr 0xAC#8 progLdyAbs (bytesW aa) s

/-- LDY `LDY $nn,X`, opcode 0xB4 (R292, R161). -/
def progLdyDpX (r : Regs) : Prog := readX .dpX r ldyOp
/-- `LDY $nn,X` as one transition (R212). -/
def execLdyDpX (off : Byte) (s : State) : Host.Outcome State Fault Refusal :=
  runInstr 0xB4#8 progLdyDpX [off] s

/-- LDY `LDY $nnnn,X`, opcode 0xBC (R292, R169). -/
def progLdyAbsX (r : Regs) : Prog := readX .absX r ldyOp
/-- `LDY $nnnn,X` as one transition (R212). -/
def execLdyAbsX (aa : Word) (s : State) : Host.Outcome State Fault Refusal :=
  runInstr 0xBC#8 progLdyAbsX (bytesW aa) s

/-- STA `STA ($nn,X)`, opcode 0x81 (R293, R164). -/
def progStaDpXInd (r : Regs) : Prog := storeM .dpXInd r Regs.a
/-- `STA ($nn,X)` as one transition (R212). -/
def execStaDpXInd (off : Byte) (s : State) : Host.Outcome State Fault Refusal :=
  runInstr 0x81#8 progStaDpXInd [off] s

/-- STA `STA $nn,S`, opcode 0x83 (R293, R173). -/
def progStaSr (r : Regs) : Prog := storeM .sr r Regs.a
/-- `STA $nn,S` as one transition (R212). -/
def execStaSr (off : Byte) (s : State) : Host.Outcome State Fault Refusal :=
  runInstr 0x83#8 progStaSr [off] s

/-- STA `STA $nn`, opcode 0x85 (R293, R160). -/
def progStaDp (r : Regs) : Prog := storeM .dp r Regs.a
/-- `STA $nn` as one transition (R212). -/
def execStaDp (off : Byte) (s : State) : Host.Outcome State Fault Refusal :=
  runInstr 0x85#8 progStaDp [off] s

/-- STA `STA [$nn]`, opcode 0x87 (R293, R166). -/
def progStaDpLong (r : Regs) : Prog := storeM .dpLong r Regs.a
/-- `STA [$nn]` as one transition (R212). -/
def execStaDpLong (off : Byte) (s : State) : Host.Outcome State Fault Refusal :=
  runInstr 0x87#8 progStaDpLong [off] s

/-- STA `STA $nnnn`, opcode 0x8D (R293, R168). -/
def progStaAbs (r : Regs) : Prog := storeM .abs r Regs.a
/-- `STA $nnnn` as one transition (R212). -/
def execStaAbs (aa : Word) (s : State) : Host.Outcome State Fault Refusal :=
  runInstr 0x8D#8 progStaAbs (bytesW aa) s

/-- STA `STA $nnnnnn`, opcode 0x8F (R293, R171). -/
def progStaLong (r : Regs) : Prog := storeM .long r Regs.a
/-- `STA $nnnnnn` as one transition (R212). -/
def execStaLong (al : Addr) (s : State) : Host.Outcome State Fault Refusal :=
  runInstr 0x8F#8 progStaLong (bytesL al) s

/-- STA `STA ($nn),Y`, opcode 0x91 (R293, R165). -/
def progStaDpIndY (r : Regs) : Prog := storeM .dpIndY r Regs.a
/-- `STA ($nn),Y` as one transition (R212). -/
def execStaDpIndY (off : Byte) (s : State) : Host.Outcome State Fault Refusal :=
  runInstr 0x91#8 progStaDpIndY [off] s

/-- STA `STA ($nn)`, opcode 0x92 (R293, R163). -/
def progStaDpInd (r : Regs) : Prog := storeM .dpInd r Regs.a
/-- `STA ($nn)` as one transition (R212). -/
def execStaDpInd (off : Byte) (s : State) : Host.Outcome State Fault Refusal :=
  runInstr 0x92#8 progStaDpInd [off] s

/-- STA `STA ($nn,S),Y`, opcode 0x93 (R293, R174). -/
def progStaSrIndY (r : Regs) : Prog := storeM .srIndY r Regs.a
/-- `STA ($nn,S),Y` as one transition (R212). -/
def execStaSrIndY (off : Byte) (s : State) : Host.Outcome State Fault Refusal :=
  runInstr 0x93#8 progStaSrIndY [off] s

/-- STA `STA $nn,X`, opcode 0x95 (R293, R161). -/
def progStaDpX (r : Regs) : Prog := storeM .dpX r Regs.a
/-- `STA $nn,X` as one transition (R212). -/
def execStaDpX (off : Byte) (s : State) : Host.Outcome State Fault Refusal :=
  runInstr 0x95#8 progStaDpX [off] s

/-- STA `STA [$nn],Y`, opcode 0x97 (R293, R167). -/
def progStaDpLongY (r : Regs) : Prog := storeM .dpLongY r Regs.a
/-- `STA [$nn],Y` as one transition (R212). -/
def execStaDpLongY (off : Byte) (s : State) : Host.Outcome State Fault Refusal :=
  runInstr 0x97#8 progStaDpLongY [off] s

/-- STA `STA $nnnn,Y`, opcode 0x99 (R293, R170). -/
def progStaAbsY (r : Regs) : Prog := storeM .absY r Regs.a
/-- `STA $nnnn,Y` as one transition (R212). -/
def execStaAbsY (aa : Word) (s : State) : Host.Outcome State Fault Refusal :=
  runInstr 0x99#8 progStaAbsY (bytesW aa) s

/-- STA `STA $nnnn,X`, opcode 0x9D (R293, R169). -/
def progStaAbsX (r : Regs) : Prog := storeM .absX r Regs.a
/-- `STA $nnnn,X` as one transition (R212). -/
def execStaAbsX (aa : Word) (s : State) : Host.Outcome State Fault Refusal :=
  runInstr 0x9D#8 progStaAbsX (bytesW aa) s

/-- STA `STA $nnnnnn,X`, opcode 0x9F (R293, R172). -/
def progStaLongX (r : Regs) : Prog := storeM .longX r Regs.a
/-- `STA $nnnnnn,X` as one transition (R212). -/
def execStaLongX (al : Addr) (s : State) : Host.Outcome State Fault Refusal :=
  runInstr 0x9F#8 progStaLongX (bytesL al) s

/-- STX `STX $nn`, opcode 0x86 (R294, R160). -/
def progStxDp (r : Regs) : Prog := storeX .dp r Regs.x
/-- `STX $nn` as one transition (R212). -/
def execStxDp (off : Byte) (s : State) : Host.Outcome State Fault Refusal :=
  runInstr 0x86#8 progStxDp [off] s

/-- STX `STX $nnnn`, opcode 0x8E (R294, R168). -/
def progStxAbs (r : Regs) : Prog := storeX .abs r Regs.x
/-- `STX $nnnn` as one transition (R212). -/
def execStxAbs (aa : Word) (s : State) : Host.Outcome State Fault Refusal :=
  runInstr 0x8E#8 progStxAbs (bytesW aa) s

/-- STX `STX $nn,Y`, opcode 0x96 (R294, R162). -/
def progStxDpY (r : Regs) : Prog := storeX .dpY r Regs.x
/-- `STX $nn,Y` as one transition (R212). -/
def execStxDpY (off : Byte) (s : State) : Host.Outcome State Fault Refusal :=
  runInstr 0x96#8 progStxDpY [off] s

/-- STY `STY $nn`, opcode 0x84 (R295, R160). -/
def progStyDp (r : Regs) : Prog := storeX .dp r Regs.y
/-- `STY $nn` as one transition (R212). -/
def execStyDp (off : Byte) (s : State) : Host.Outcome State Fault Refusal :=
  runInstr 0x84#8 progStyDp [off] s

/-- STY `STY $nnnn`, opcode 0x8C (R295, R168). -/
def progStyAbs (r : Regs) : Prog := storeX .abs r Regs.y
/-- `STY $nnnn` as one transition (R212). -/
def execStyAbs (aa : Word) (s : State) : Host.Outcome State Fault Refusal :=
  runInstr 0x8C#8 progStyAbs (bytesW aa) s

/-- STY `STY $nn,X`, opcode 0x94 (R295, R161). -/
def progStyDpX (r : Regs) : Prog := storeX .dpX r Regs.y
/-- `STY $nn,X` as one transition (R212). -/
def execStyDpX (off : Byte) (s : State) : Host.Outcome State Fault Refusal :=
  runInstr 0x94#8 progStyDpX [off] s

/-- STZ `STZ $nn`, opcode 0x64 (R296, R160). -/
def progStzDp (r : Regs) : Prog := storeM .dp r (fun _ => 0x0000#16)
/-- `STZ $nn` as one transition (R212). -/
def execStzDp (off : Byte) (s : State) : Host.Outcome State Fault Refusal :=
  runInstr 0x64#8 progStzDp [off] s

/-- STZ `STZ $nn,X`, opcode 0x74 (R296, R161). -/
def progStzDpX (r : Regs) : Prog := storeM .dpX r (fun _ => 0x0000#16)
/-- `STZ $nn,X` as one transition (R212). -/
def execStzDpX (off : Byte) (s : State) : Host.Outcome State Fault Refusal :=
  runInstr 0x74#8 progStzDpX [off] s

/-- STZ `STZ $nnnn`, opcode 0x9C (R296, R168). -/
def progStzAbs (r : Regs) : Prog := storeM .abs r (fun _ => 0x0000#16)
/-- `STZ $nnnn` as one transition (R212). -/
def execStzAbs (aa : Word) (s : State) : Host.Outcome State Fault Refusal :=
  runInstr 0x9C#8 progStzAbs (bytesW aa) s

/-- STZ `STZ $nnnn,X`, opcode 0x9E (R296, R169). -/
def progStzAbsX (r : Regs) : Prog := storeM .absX r (fun _ => 0x0000#16)
/-- `STZ $nnnn,X` as one transition (R212). -/
def execStzAbsX (aa : Word) (s : State) : Host.Outcome State Fault Refusal :=
  runInstr 0x9E#8 progStzAbsX (bytesW aa) s

end Sys2Proof.Machine
end

