-- ==== Sys2Proof/Machine/TransferStack.lean ====
section
/-! DEFINITION. The transfers and XBA, the pushes and pulls, PEA, PEI and PER, and the block moves MVN and MVP
(46_transfer_stack.md). -/

namespace Sys2Proof.Machine

/-- XBA (R323): AH and AL exchanged, Z and N from the new AL at 8 bits. -/
def Regs.exchange (r : Regs) : Regs := { r with a := word (lo8 r.a) (hi8 r.a) }.setNZ (hi8 r.a)

/-- The push table for a register of the width `w8` (R324). -/
def pushReg (w8 : Bool) (v : Word) (r : Regs) : Prog :=
  idle r (if w8 then pushLast (lo8 v) r id else push16Last v r id)

/-- The push table for a byte (R324). -/
def pushByte (v : Byte) (r : Regs) : Prog := idle r (pushLast v r id)

/-- The pull table for a register of the width `w8` (R332), `op` its write-back. -/
def pullReg (w8 : Bool) (r : Regs) (op : (n : Nat) → BitVec n → Regs → Regs) : Prog :=
  idle r (idle r (if w8 then pullLast r (fun b r => op 8 b r)
                  else pull r fun lo r => pullLast r fun hi r => op 16 (word hi lo) r))

/-- The direct-page register written by PLD or TCD, with Z and N at 16 bits (R321, R338). -/
def Regs.loadD (r : Regs) (v : Word) : Regs := { r with d := v }.setNZ v

/-- The data bank register written by PLB, with Z and N (R337). -/
def Regs.loadDb (r : Regs) (v : Byte) : Regs := { r with db := v }.setNZ v

/-- MVN and MVP, one byte moved (R342): `step` moves X and Y at the index width. While the count has not passed 0 the
program counter goes back to the instruction. -/
def blockMove (r : Regs) (step : (n : Nat) → BitVec n → BitVec n) : Prog :=
  let pc0 := r.pc - 1#16
  fetchByte r fun dst r => fetchByte r fun src r =>
    readByte (addr src r.x) r fun t =>
      let r2 : Regs := { r with db := dst }
      let r3 : Regs := { r2.atX fun n r => (r.setX (step n (r.getX n))).setY (step n (r.getY n)) with a := r.a - 1#16 }
      .write (addr dst r.y) t r2 (idle r3 (.idleLast (if r3.a != 0xFFFF#16 then { r3 with pc := pc0 } else r3)))

/-- TAX `TAX`, opcode 0xAA (R311, R176). -/
def progTax (r : Regs) : Prog := implied r fun r => r.atX fun n r => r.loadX (r.getA n)
/-- `TAX` as one transition (R212). -/
def execTax (s : State) : Host.Outcome State Fault Refusal :=
  runInstr 0xAA#8 progTax [] s

/-- TAY `TAY`, opcode 0xA8 (R312, R176). -/
def progTay (r : Regs) : Prog := implied r fun r => r.atX fun n r => r.loadY (r.getA n)
/-- `TAY` as one transition (R212). -/
def execTay (s : State) : Host.Outcome State Fault Refusal :=
  runInstr 0xA8#8 progTay [] s

/-- TXA `TXA`, opcode 0x8A (R313, R176). -/
def progTxa (r : Regs) : Prog := implied r fun r => r.atM fun n r => r.loadA (r.getX n)
/-- `TXA` as one transition (R212). -/
def execTxa (s : State) : Host.Outcome State Fault Refusal :=
  runInstr 0x8A#8 progTxa [] s

/-- TYA `TYA`, opcode 0x98 (R314, R176). -/
def progTya (r : Regs) : Prog := implied r fun r => r.atM fun n r => r.loadA (r.getY n)
/-- `TYA` as one transition (R212). -/
def execTya (s : State) : Host.Outcome State Fault Refusal :=
  runInstr 0x98#8 progTya [] s

/-- TXY `TXY`, opcode 0x9B (R315, R176). -/
def progTxy (r : Regs) : Prog := implied r fun r => r.atX fun n r => r.loadY (r.getX n)
/-- `TXY` as one transition (R212). -/
def execTxy (s : State) : Host.Outcome State Fault Refusal :=
  runInstr 0x9B#8 progTxy [] s

/-- TYX `TYX`, opcode 0xBB (R316, R176). -/
def progTyx (r : Regs) : Prog := implied r fun r => r.atX fun n r => r.loadX (r.getY n)
/-- `TYX` as one transition (R212). -/
def execTyx (s : State) : Host.Outcome State Fault Refusal :=
  runInstr 0xBB#8 progTyx [] s

/-- TSX `TSX`, opcode 0xBA (R317, R176). -/
def progTsx (r : Regs) : Prog := implied r fun r => r.atX fun n r => r.loadX (r.s.setWidth n)
/-- `TSX` as one transition (R212). -/
def execTsx (s : State) : Host.Outcome State Fault Refusal :=
  runInstr 0xBA#8 progTsx [] s

/-- TXS `TXS`, opcode 0x9A (R318, R176). -/
def progTxs (r : Regs) : Prog := implied r fun r => r.setS r.x
/-- `TXS` as one transition (R212). -/
def execTxs (s : State) : Host.Outcome State Fault Refusal :=
  runInstr 0x9A#8 progTxs [] s

/-- TCS `TCS`, opcode 0x1B (R319, R176). -/
def progTcs (r : Regs) : Prog := implied r fun r => r.setS r.a
/-- `TCS` as one transition (R212). -/
def execTcs (s : State) : Host.Outcome State Fault Refusal :=
  runInstr 0x1B#8 progTcs [] s

/-- TSC `TSC`, opcode 0x3B (R320, R176). -/
def progTsc (r : Regs) : Prog := implied r fun r => r.loadA r.s
/-- `TSC` as one transition (R212). -/
def execTsc (s : State) : Host.Outcome State Fault Refusal :=
  runInstr 0x3B#8 progTsc [] s

/-- TCD `TCD`, opcode 0x5B (R321, R176). -/
def progTcd (r : Regs) : Prog := implied r fun r => r.loadD r.a
/-- `TCD` as one transition (R212). -/
def execTcd (s : State) : Host.Outcome State Fault Refusal :=
  runInstr 0x5B#8 progTcd [] s

/-- TDC `TDC`, opcode 0x7B (R322, R176). -/
def progTdc (r : Regs) : Prog := implied r fun r => r.loadA r.d
/-- `TDC` as one transition (R212). -/
def execTdc (s : State) : Host.Outcome State Fault Refusal :=
  runInstr 0x7B#8 progTdc [] s

/-- XBA `XBA`, opcode 0xEB (R323). -/
def progXba (r : Regs) : Prog := idle r (.idleLast r.exchange)
/-- `XBA` as one transition (R212). -/
def execXba (s : State) : Host.Outcome State Fault Refusal :=
  runInstr 0xEB#8 progXba [] s

/-- PHA `PHA`, opcode 0x48 (R325). -/
def progPha (r : Regs) : Prog := pushReg r.fM r.a r
/-- `PHA` as one transition (R212). -/
def execPha (s : State) : Host.Outcome State Fault Refusal :=
  runInstr 0x48#8 progPha [] s

/-- PHX `PHX`, opcode 0xDA (R326). -/
def progPhx (r : Regs) : Prog := pushReg r.fX r.x r
/-- `PHX` as one transition (R212). -/
def execPhx (s : State) : Host.Outcome State Fault Refusal :=
  runInstr 0xDA#8 progPhx [] s

/-- PHY `PHY`, opcode 0x5A (R327). -/
def progPhy (r : Regs) : Prog := pushReg r.fX r.y r
/-- `PHY` as one transition (R212). -/
def execPhy (s : State) : Host.Outcome State Fault Refusal :=
  runInstr 0x5A#8 progPhy [] s

/-- PHP `PHP`, opcode 0x08 (R328). -/
def progPhp (r : Regs) : Prog := pushByte r.p r
/-- `PHP` as one transition (R212). -/
def execPhp (s : State) : Host.Outcome State Fault Refusal :=
  runInstr 0x08#8 progPhp [] s

/-- PHB `PHB`, opcode 0x8B (R329). -/
def progPhb (r : Regs) : Prog := pushByte r.db r
/-- `PHB` as one transition (R212). -/
def execPhb (s : State) : Host.Outcome State Fault Refusal :=
  runInstr 0x8B#8 progPhb [] s

/-- PHK `PHK`, opcode 0x4B (R330). -/
def progPhk (r : Regs) : Prog := pushByte r.pb r
/-- `PHK` as one transition (R212). -/
def execPhk (s : State) : Host.Outcome State Fault Refusal :=
  runInstr 0x4B#8 progPhk [] s

/-- PHD `PHD`, opcode 0x0B (R331). -/
def progPhd (r : Regs) : Prog := pushReg false r.d r
/-- `PHD` as one transition (R212). -/
def execPhd (s : State) : Host.Outcome State Fault Refusal :=
  runInstr 0x0B#8 progPhd [] s

/-- PLA `PLA`, opcode 0x68 (R333). -/
def progPla (r : Regs) : Prog := pullReg r.fM r fun _ v r => r.loadA v
/-- `PLA` as one transition (R212). -/
def execPla (s : State) : Host.Outcome State Fault Refusal :=
  runInstr 0x68#8 progPla [] s

/-- PLX `PLX`, opcode 0xFA (R334). -/
def progPlx (r : Regs) : Prog := pullReg r.fX r fun _ v r => r.loadX v
/-- `PLX` as one transition (R212). -/
def execPlx (s : State) : Host.Outcome State Fault Refusal :=
  runInstr 0xFA#8 progPlx [] s

/-- PLY `PLY`, opcode 0x7A (R335). -/
def progPly (r : Regs) : Prog := pullReg r.fX r fun _ v r => r.loadY v
/-- `PLY` as one transition (R212). -/
def execPly (s : State) : Host.Outcome State Fault Refusal :=
  runInstr 0x7A#8 progPly [] s

/-- PLP `PLP`, opcode 0x28 (R336). -/
def progPlp (r : Regs) : Prog := idle r (idle r (pullLast r fun v r => r.setP v))
/-- `PLP` as one transition (R212). -/
def execPlp (s : State) : Host.Outcome State Fault Refusal :=
  runInstr 0x28#8 progPlp [] s

/-- PLB `PLB`, opcode 0xAB (R337). -/
def progPlb (r : Regs) : Prog := idle r (idle r (pullLast r fun v r => r.loadDb v))
/-- `PLB` as one transition (R212). -/
def execPlb (s : State) : Host.Outcome State Fault Refusal :=
  runInstr 0xAB#8 progPlb [] s

/-- PLD `PLD`, opcode 0x2B (R338). -/
def progPld (r : Regs) : Prog := idle r (idle r (pull r fun lo r => pullLast r fun hi r => r.loadD (word hi lo)))
/-- `PLD` as one transition (R212). -/
def execPld (s : State) : Host.Outcome State Fault Refusal :=
  runInstr 0x2B#8 progPld [] s

/-- PEA `PEA $nnnn`, opcode 0xF4 (R339). -/
def progPea (r : Regs) : Prog := fetchWord r fun aa r => push16Last aa r id
/-- `PEA $nnnn` as one transition (R212). -/
def execPea (aa : Word) (s : State) : Host.Outcome State Fault Refusal :=
  runInstr 0xF4#8 progPea (bytesW aa) s

/-- PEI `PEI ($nn)`, opcode 0xD4 (R340). -/
def progPei (r : Regs) : Prog := fetchDirect r fun off r => readPtr (r.dpOff off) r fun aa => push16Last aa r id
/-- `PEI ($nn)` as one transition (R212). -/
def execPei (off : Byte) (s : State) : Host.Outcome State Fault Refusal :=
  runInstr 0xD4#8 progPei [off] s

/-- PER `PER label`, opcode 0x62 (R341). -/
def progPer (r : Regs) : Prog := fetchWord r fun rel r => idle r (push16Last (r.pc + rel) r id)
/-- `PER label` as one transition (R212). -/
def execPer (rel : Word) (s : State) : Host.Outcome State Fault Refusal :=
  runInstr 0x62#8 progPer (bytesW rel) s

/-- MVN `MVN $ss,$dd`, opcode 0x54 (R343). -/
def progMvn (r : Regs) : Prog := blockMove r fun _ v => inc v
/-- `MVN $ss,$dd` as one transition (R212). -/
def execMvn (dst : Byte) (src : Byte) (s : State) : Host.Outcome State Fault Refusal :=
  runInstr 0x54#8 progMvn [dst, src] s

/-- MVP `MVP $ss,$dd`, opcode 0x44 (R344). -/
def progMvp (r : Regs) : Prog := blockMove r fun _ v => dec v
/-- `MVP $ss,$dd` as one transition (R212). -/
def execMvp (dst : Byte) (src : Byte) (s : State) : Host.Outcome State Fault Refusal :=
  runInstr 0x44#8 progMvp [dst, src] s

end Sys2Proof.Machine
end

