-- ==== Sys2Proof/Machine/Dispatch.lean ====
section
/-! DEFINITION. The meaning of every instruction, one arm per constructor, in the order of the opcodes. -/

namespace Sys2Proof.Machine

def exec (i : Instr) (s : State) : Host.Outcome State Fault Refusal :=
  match i with
  | .brk sig => Sys2Proof.Machine.execBrk sig s
  | .oraDpXInd off => Sys2Proof.Machine.execOraDpXInd off s
  | .cop sig => Sys2Proof.Machine.execCop sig s
  | .oraSr off => Sys2Proof.Machine.execOraSr off s
  | .tsbDp off => Sys2Proof.Machine.execTsbDp off s
  | .oraDp off => Sys2Proof.Machine.execOraDp off s
  | .aslDp off => Sys2Proof.Machine.execAslDp off s
  | .oraDpLong off => Sys2Proof.Machine.execOraDpLong off s
  | .php => Sys2Proof.Machine.execPhp s
  | .oraImm imm => Sys2Proof.Machine.execOraImm imm s
  | .aslA => Sys2Proof.Machine.execAslA s
  | .phd => Sys2Proof.Machine.execPhd s
  | .tsbAbs aa => Sys2Proof.Machine.execTsbAbs aa s
  | .oraAbs aa => Sys2Proof.Machine.execOraAbs aa s
  | .aslAbs aa => Sys2Proof.Machine.execAslAbs aa s
  | .oraLong al => Sys2Proof.Machine.execOraLong al s
  | .bpl rel => Sys2Proof.Machine.execBpl rel s
  | .oraDpIndY off => Sys2Proof.Machine.execOraDpIndY off s
  | .oraDpInd off => Sys2Proof.Machine.execOraDpInd off s
  | .oraSrIndY off => Sys2Proof.Machine.execOraSrIndY off s
  | .trbDp off => Sys2Proof.Machine.execTrbDp off s
  | .oraDpX off => Sys2Proof.Machine.execOraDpX off s
  | .aslDpX off => Sys2Proof.Machine.execAslDpX off s
  | .oraDpLongY off => Sys2Proof.Machine.execOraDpLongY off s
  | .clc => Sys2Proof.Machine.execClc s
  | .oraAbsY aa => Sys2Proof.Machine.execOraAbsY aa s
  | .incA => Sys2Proof.Machine.execIncA s
  | .tcs => Sys2Proof.Machine.execTcs s
  | .trbAbs aa => Sys2Proof.Machine.execTrbAbs aa s
  | .oraAbsX aa => Sys2Proof.Machine.execOraAbsX aa s
  | .aslAbsX aa => Sys2Proof.Machine.execAslAbsX aa s
  | .oraLongX al => Sys2Proof.Machine.execOraLongX al s
  | .jsrAbs aa => Sys2Proof.Machine.execJsrAbs aa s
  | .andDpXInd off => Sys2Proof.Machine.execAndDpXInd off s
  | .jsl al => Sys2Proof.Machine.execJsl al s
  | .andSr off => Sys2Proof.Machine.execAndSr off s
  | .bitDp off => Sys2Proof.Machine.execBitDp off s
  | .andDp off => Sys2Proof.Machine.execAndDp off s
  | .rolDp off => Sys2Proof.Machine.execRolDp off s
  | .andDpLong off => Sys2Proof.Machine.execAndDpLong off s
  | .plp => Sys2Proof.Machine.execPlp s
  | .andImm imm => Sys2Proof.Machine.execAndImm imm s
  | .rolA => Sys2Proof.Machine.execRolA s
  | .pld => Sys2Proof.Machine.execPld s
  | .bitAbs aa => Sys2Proof.Machine.execBitAbs aa s
  | .andAbs aa => Sys2Proof.Machine.execAndAbs aa s
  | .rolAbs aa => Sys2Proof.Machine.execRolAbs aa s
  | .andLong al => Sys2Proof.Machine.execAndLong al s
  | .bmi rel => Sys2Proof.Machine.execBmi rel s
  | .andDpIndY off => Sys2Proof.Machine.execAndDpIndY off s
  | .andDpInd off => Sys2Proof.Machine.execAndDpInd off s
  | .andSrIndY off => Sys2Proof.Machine.execAndSrIndY off s
  | .bitDpX off => Sys2Proof.Machine.execBitDpX off s
  | .andDpX off => Sys2Proof.Machine.execAndDpX off s
  | .rolDpX off => Sys2Proof.Machine.execRolDpX off s
  | .andDpLongY off => Sys2Proof.Machine.execAndDpLongY off s
  | .sec => Sys2Proof.Machine.execSec s
  | .andAbsY aa => Sys2Proof.Machine.execAndAbsY aa s
  | .decA => Sys2Proof.Machine.execDecA s
  | .tsc => Sys2Proof.Machine.execTsc s
  | .bitAbsX aa => Sys2Proof.Machine.execBitAbsX aa s
  | .andAbsX aa => Sys2Proof.Machine.execAndAbsX aa s
  | .rolAbsX aa => Sys2Proof.Machine.execRolAbsX aa s
  | .andLongX al => Sys2Proof.Machine.execAndLongX al s
  | .rti => Sys2Proof.Machine.execRti s
  | .eorDpXInd off => Sys2Proof.Machine.execEorDpXInd off s
  | .wdm sig => Sys2Proof.Machine.execWdm sig s
  | .eorSr off => Sys2Proof.Machine.execEorSr off s
  | .mvp dst src => Sys2Proof.Machine.execMvp dst src s
  | .eorDp off => Sys2Proof.Machine.execEorDp off s
  | .lsrDp off => Sys2Proof.Machine.execLsrDp off s
  | .eorDpLong off => Sys2Proof.Machine.execEorDpLong off s
  | .pha => Sys2Proof.Machine.execPha s
  | .eorImm imm => Sys2Proof.Machine.execEorImm imm s
  | .lsrA => Sys2Proof.Machine.execLsrA s
  | .phk => Sys2Proof.Machine.execPhk s
  | .jmpAbs aa => Sys2Proof.Machine.execJmpAbs aa s
  | .eorAbs aa => Sys2Proof.Machine.execEorAbs aa s
  | .lsrAbs aa => Sys2Proof.Machine.execLsrAbs aa s
  | .eorLong al => Sys2Proof.Machine.execEorLong al s
  | .bvc rel => Sys2Proof.Machine.execBvc rel s
  | .eorDpIndY off => Sys2Proof.Machine.execEorDpIndY off s
  | .eorDpInd off => Sys2Proof.Machine.execEorDpInd off s
  | .eorSrIndY off => Sys2Proof.Machine.execEorSrIndY off s
  | .mvn dst src => Sys2Proof.Machine.execMvn dst src s
  | .eorDpX off => Sys2Proof.Machine.execEorDpX off s
  | .lsrDpX off => Sys2Proof.Machine.execLsrDpX off s
  | .eorDpLongY off => Sys2Proof.Machine.execEorDpLongY off s
  | .cli => Sys2Proof.Machine.execCli s
  | .eorAbsY aa => Sys2Proof.Machine.execEorAbsY aa s
  | .phy => Sys2Proof.Machine.execPhy s
  | .tcd => Sys2Proof.Machine.execTcd s
  | .jmlLong al => Sys2Proof.Machine.execJmlLong al s
  | .eorAbsX aa => Sys2Proof.Machine.execEorAbsX aa s
  | .lsrAbsX aa => Sys2Proof.Machine.execLsrAbsX aa s
  | .eorLongX al => Sys2Proof.Machine.execEorLongX al s
  | .rts => Sys2Proof.Machine.execRts s
  | .adcDpXInd off => Sys2Proof.Machine.execAdcDpXInd off s
  | .per rel => Sys2Proof.Machine.execPer rel s
  | .adcSr off => Sys2Proof.Machine.execAdcSr off s
  | .stzDp off => Sys2Proof.Machine.execStzDp off s
  | .adcDp off => Sys2Proof.Machine.execAdcDp off s
  | .rorDp off => Sys2Proof.Machine.execRorDp off s
  | .adcDpLong off => Sys2Proof.Machine.execAdcDpLong off s
  | .pla => Sys2Proof.Machine.execPla s
  | .adcImm imm => Sys2Proof.Machine.execAdcImm imm s
  | .rorA => Sys2Proof.Machine.execRorA s
  | .rtl => Sys2Proof.Machine.execRtl s
  | .jmpInd aa => Sys2Proof.Machine.execJmpInd aa s
  | .adcAbs aa => Sys2Proof.Machine.execAdcAbs aa s
  | .rorAbs aa => Sys2Proof.Machine.execRorAbs aa s
  | .adcLong al => Sys2Proof.Machine.execAdcLong al s
  | .bvs rel => Sys2Proof.Machine.execBvs rel s
  | .adcDpIndY off => Sys2Proof.Machine.execAdcDpIndY off s
  | .adcDpInd off => Sys2Proof.Machine.execAdcDpInd off s
  | .adcSrIndY off => Sys2Proof.Machine.execAdcSrIndY off s
  | .stzDpX off => Sys2Proof.Machine.execStzDpX off s
  | .adcDpX off => Sys2Proof.Machine.execAdcDpX off s
  | .rorDpX off => Sys2Proof.Machine.execRorDpX off s
  | .adcDpLongY off => Sys2Proof.Machine.execAdcDpLongY off s
  | .sei => Sys2Proof.Machine.execSei s
  | .adcAbsY aa => Sys2Proof.Machine.execAdcAbsY aa s
  | .ply => Sys2Proof.Machine.execPly s
  | .tdc => Sys2Proof.Machine.execTdc s
  | .jmpXInd aa => Sys2Proof.Machine.execJmpXInd aa s
  | .adcAbsX aa => Sys2Proof.Machine.execAdcAbsX aa s
  | .rorAbsX aa => Sys2Proof.Machine.execRorAbsX aa s
  | .adcLongX al => Sys2Proof.Machine.execAdcLongX al s
  | .bra rel => Sys2Proof.Machine.execBra rel s
  | .staDpXInd off => Sys2Proof.Machine.execStaDpXInd off s
  | .brl rel => Sys2Proof.Machine.execBrl rel s
  | .staSr off => Sys2Proof.Machine.execStaSr off s
  | .styDp off => Sys2Proof.Machine.execStyDp off s
  | .staDp off => Sys2Proof.Machine.execStaDp off s
  | .stxDp off => Sys2Proof.Machine.execStxDp off s
  | .staDpLong off => Sys2Proof.Machine.execStaDpLong off s
  | .dey => Sys2Proof.Machine.execDey s
  | .bitImm imm => Sys2Proof.Machine.execBitImm imm s
  | .txa => Sys2Proof.Machine.execTxa s
  | .phb => Sys2Proof.Machine.execPhb s
  | .styAbs aa => Sys2Proof.Machine.execStyAbs aa s
  | .staAbs aa => Sys2Proof.Machine.execStaAbs aa s
  | .stxAbs aa => Sys2Proof.Machine.execStxAbs aa s
  | .staLong al => Sys2Proof.Machine.execStaLong al s
  | .bcc rel => Sys2Proof.Machine.execBcc rel s
  | .staDpIndY off => Sys2Proof.Machine.execStaDpIndY off s
  | .staDpInd off => Sys2Proof.Machine.execStaDpInd off s
  | .staSrIndY off => Sys2Proof.Machine.execStaSrIndY off s
  | .styDpX off => Sys2Proof.Machine.execStyDpX off s
  | .staDpX off => Sys2Proof.Machine.execStaDpX off s
  | .stxDpY off => Sys2Proof.Machine.execStxDpY off s
  | .staDpLongY off => Sys2Proof.Machine.execStaDpLongY off s
  | .tya => Sys2Proof.Machine.execTya s
  | .staAbsY aa => Sys2Proof.Machine.execStaAbsY aa s
  | .txs => Sys2Proof.Machine.execTxs s
  | .txy => Sys2Proof.Machine.execTxy s
  | .stzAbs aa => Sys2Proof.Machine.execStzAbs aa s
  | .staAbsX aa => Sys2Proof.Machine.execStaAbsX aa s
  | .stzAbsX aa => Sys2Proof.Machine.execStzAbsX aa s
  | .staLongX al => Sys2Proof.Machine.execStaLongX al s
  | .ldyImm imm => Sys2Proof.Machine.execLdyImm imm s
  | .ldaDpXInd off => Sys2Proof.Machine.execLdaDpXInd off s
  | .ldxImm imm => Sys2Proof.Machine.execLdxImm imm s
  | .ldaSr off => Sys2Proof.Machine.execLdaSr off s
  | .ldyDp off => Sys2Proof.Machine.execLdyDp off s
  | .ldaDp off => Sys2Proof.Machine.execLdaDp off s
  | .ldxDp off => Sys2Proof.Machine.execLdxDp off s
  | .ldaDpLong off => Sys2Proof.Machine.execLdaDpLong off s
  | .tay => Sys2Proof.Machine.execTay s
  | .ldaImm imm => Sys2Proof.Machine.execLdaImm imm s
  | .tax => Sys2Proof.Machine.execTax s
  | .plb => Sys2Proof.Machine.execPlb s
  | .ldyAbs aa => Sys2Proof.Machine.execLdyAbs aa s
  | .ldaAbs aa => Sys2Proof.Machine.execLdaAbs aa s
  | .ldxAbs aa => Sys2Proof.Machine.execLdxAbs aa s
  | .ldaLong al => Sys2Proof.Machine.execLdaLong al s
  | .bcs rel => Sys2Proof.Machine.execBcs rel s
  | .ldaDpIndY off => Sys2Proof.Machine.execLdaDpIndY off s
  | .ldaDpInd off => Sys2Proof.Machine.execLdaDpInd off s
  | .ldaSrIndY off => Sys2Proof.Machine.execLdaSrIndY off s
  | .ldyDpX off => Sys2Proof.Machine.execLdyDpX off s
  | .ldaDpX off => Sys2Proof.Machine.execLdaDpX off s
  | .ldxDpY off => Sys2Proof.Machine.execLdxDpY off s
  | .ldaDpLongY off => Sys2Proof.Machine.execLdaDpLongY off s
  | .clv => Sys2Proof.Machine.execClv s
  | .ldaAbsY aa => Sys2Proof.Machine.execLdaAbsY aa s
  | .tsx => Sys2Proof.Machine.execTsx s
  | .tyx => Sys2Proof.Machine.execTyx s
  | .ldyAbsX aa => Sys2Proof.Machine.execLdyAbsX aa s
  | .ldaAbsX aa => Sys2Proof.Machine.execLdaAbsX aa s
  | .ldxAbsY aa => Sys2Proof.Machine.execLdxAbsY aa s
  | .ldaLongX al => Sys2Proof.Machine.execLdaLongX al s
  | .cpyImm imm => Sys2Proof.Machine.execCpyImm imm s
  | .cmpDpXInd off => Sys2Proof.Machine.execCmpDpXInd off s
  | .rep mask => Sys2Proof.Machine.execRep mask s
  | .cmpSr off => Sys2Proof.Machine.execCmpSr off s
  | .cpyDp off => Sys2Proof.Machine.execCpyDp off s
  | .cmpDp off => Sys2Proof.Machine.execCmpDp off s
  | .decDp off => Sys2Proof.Machine.execDecDp off s
  | .cmpDpLong off => Sys2Proof.Machine.execCmpDpLong off s
  | .iny => Sys2Proof.Machine.execIny s
  | .cmpImm imm => Sys2Proof.Machine.execCmpImm imm s
  | .dex => Sys2Proof.Machine.execDex s
  | .wai => Sys2Proof.Machine.execWai s
  | .cpyAbs aa => Sys2Proof.Machine.execCpyAbs aa s
  | .cmpAbs aa => Sys2Proof.Machine.execCmpAbs aa s
  | .decAbs aa => Sys2Proof.Machine.execDecAbs aa s
  | .cmpLong al => Sys2Proof.Machine.execCmpLong al s
  | .bne rel => Sys2Proof.Machine.execBne rel s
  | .cmpDpIndY off => Sys2Proof.Machine.execCmpDpIndY off s
  | .cmpDpInd off => Sys2Proof.Machine.execCmpDpInd off s
  | .cmpSrIndY off => Sys2Proof.Machine.execCmpSrIndY off s
  | .pei off => Sys2Proof.Machine.execPei off s
  | .cmpDpX off => Sys2Proof.Machine.execCmpDpX off s
  | .decDpX off => Sys2Proof.Machine.execDecDpX off s
  | .cmpDpLongY off => Sys2Proof.Machine.execCmpDpLongY off s
  | .cld => Sys2Proof.Machine.execCld s
  | .cmpAbsY aa => Sys2Proof.Machine.execCmpAbsY aa s
  | .phx => Sys2Proof.Machine.execPhx s
  | .stp => Sys2Proof.Machine.execStp s
  | .jmlIndLong aa => Sys2Proof.Machine.execJmlIndLong aa s
  | .cmpAbsX aa => Sys2Proof.Machine.execCmpAbsX aa s
  | .decAbsX aa => Sys2Proof.Machine.execDecAbsX aa s
  | .cmpLongX al => Sys2Proof.Machine.execCmpLongX al s
  | .cpxImm imm => Sys2Proof.Machine.execCpxImm imm s
  | .sbcDpXInd off => Sys2Proof.Machine.execSbcDpXInd off s
  | .sep mask => Sys2Proof.Machine.execSep mask s
  | .sbcSr off => Sys2Proof.Machine.execSbcSr off s
  | .cpxDp off => Sys2Proof.Machine.execCpxDp off s
  | .sbcDp off => Sys2Proof.Machine.execSbcDp off s
  | .incDp off => Sys2Proof.Machine.execIncDp off s
  | .sbcDpLong off => Sys2Proof.Machine.execSbcDpLong off s
  | .inx => Sys2Proof.Machine.execInx s
  | .sbcImm imm => Sys2Proof.Machine.execSbcImm imm s
  | .nop => Sys2Proof.Machine.execNop s
  | .xba => Sys2Proof.Machine.execXba s
  | .cpxAbs aa => Sys2Proof.Machine.execCpxAbs aa s
  | .sbcAbs aa => Sys2Proof.Machine.execSbcAbs aa s
  | .incAbs aa => Sys2Proof.Machine.execIncAbs aa s
  | .sbcLong al => Sys2Proof.Machine.execSbcLong al s
  | .beq rel => Sys2Proof.Machine.execBeq rel s
  | .sbcDpIndY off => Sys2Proof.Machine.execSbcDpIndY off s
  | .sbcDpInd off => Sys2Proof.Machine.execSbcDpInd off s
  | .sbcSrIndY off => Sys2Proof.Machine.execSbcSrIndY off s
  | .pea aa => Sys2Proof.Machine.execPea aa s
  | .sbcDpX off => Sys2Proof.Machine.execSbcDpX off s
  | .incDpX off => Sys2Proof.Machine.execIncDpX off s
  | .sbcDpLongY off => Sys2Proof.Machine.execSbcDpLongY off s
  | .sed => Sys2Proof.Machine.execSed s
  | .sbcAbsY aa => Sys2Proof.Machine.execSbcAbsY aa s
  | .plx => Sys2Proof.Machine.execPlx s
  | .xce => Sys2Proof.Machine.execXce s
  | .jsrXInd aa => Sys2Proof.Machine.execJsrXInd aa s
  | .sbcAbsX aa => Sys2Proof.Machine.execSbcAbsX aa s
  | .incAbsX aa => Sys2Proof.Machine.execIncAbsX aa s
  | .sbcLongX al => Sys2Proof.Machine.execSbcLongX al s

end Sys2Proof.Machine
end

