-- ==== Sys2Proof/Machine/Table.lean ====
section
/-! DEFINITION. The dispatch table (42_dispatch.md R201, R203, R217): the bus program of every dispatched opcode, by
the rows of the opcode map (R101). The six opcodes of 49_excluded.md have no entry (R436). -/

namespace Sys2Proof.Machine

/-- Row 0 of the dispatch table. -/
def tableRow0 (lo : Nat) : Option (Regs → Prog) :=
  match lo with
  | 0x0 => none
  | 0x1 => some progOraDpXInd
  | 0x2 => none
  | 0x3 => some progOraSr
  | 0x4 => some progTsbDp
  | 0x5 => some progOraDp
  | 0x6 => some progAslDp
  | 0x7 => some progOraDpLong
  | 0x8 => some progPhp
  | 0x9 => some progOraImm
  | 0xA => some progAslA
  | 0xB => some progPhd
  | 0xC => some progTsbAbs
  | 0xD => some progOraAbs
  | 0xE => some progAslAbs
  | _ => some progOraLong

/-- Row 1 of the dispatch table. -/
def tableRow1 (lo : Nat) : Option (Regs → Prog) :=
  match lo with
  | 0x0 => some progBpl
  | 0x1 => some progOraDpIndY
  | 0x2 => some progOraDpInd
  | 0x3 => some progOraSrIndY
  | 0x4 => some progTrbDp
  | 0x5 => some progOraDpX
  | 0x6 => some progAslDpX
  | 0x7 => some progOraDpLongY
  | 0x8 => some progClc
  | 0x9 => some progOraAbsY
  | 0xA => some progIncA
  | 0xB => some progTcs
  | 0xC => some progTrbAbs
  | 0xD => some progOraAbsX
  | 0xE => some progAslAbsX
  | _ => some progOraLongX

/-- Row 2 of the dispatch table. -/
def tableRow2 (lo : Nat) : Option (Regs → Prog) :=
  match lo with
  | 0x0 => some progJsrAbs
  | 0x1 => some progAndDpXInd
  | 0x2 => some progJsl
  | 0x3 => some progAndSr
  | 0x4 => some progBitDp
  | 0x5 => some progAndDp
  | 0x6 => some progRolDp
  | 0x7 => some progAndDpLong
  | 0x8 => some progPlp
  | 0x9 => some progAndImm
  | 0xA => some progRolA
  | 0xB => some progPld
  | 0xC => some progBitAbs
  | 0xD => some progAndAbs
  | 0xE => some progRolAbs
  | _ => some progAndLong

/-- Row 3 of the dispatch table. -/
def tableRow3 (lo : Nat) : Option (Regs → Prog) :=
  match lo with
  | 0x0 => some progBmi
  | 0x1 => some progAndDpIndY
  | 0x2 => some progAndDpInd
  | 0x3 => some progAndSrIndY
  | 0x4 => some progBitDpX
  | 0x5 => some progAndDpX
  | 0x6 => some progRolDpX
  | 0x7 => some progAndDpLongY
  | 0x8 => some progSec
  | 0x9 => some progAndAbsY
  | 0xA => some progDecA
  | 0xB => some progTsc
  | 0xC => some progBitAbsX
  | 0xD => some progAndAbsX
  | 0xE => some progRolAbsX
  | _ => some progAndLongX

/-- Row 4 of the dispatch table. -/
def tableRow4 (lo : Nat) : Option (Regs → Prog) :=
  match lo with
  | 0x0 => none
  | 0x1 => some progEorDpXInd
  | 0x2 => none
  | 0x3 => some progEorSr
  | 0x4 => some progMvp
  | 0x5 => some progEorDp
  | 0x6 => some progLsrDp
  | 0x7 => some progEorDpLong
  | 0x8 => some progPha
  | 0x9 => some progEorImm
  | 0xA => some progLsrA
  | 0xB => some progPhk
  | 0xC => some progJmpAbs
  | 0xD => some progEorAbs
  | 0xE => some progLsrAbs
  | _ => some progEorLong

/-- Row 5 of the dispatch table. -/
def tableRow5 (lo : Nat) : Option (Regs → Prog) :=
  match lo with
  | 0x0 => some progBvc
  | 0x1 => some progEorDpIndY
  | 0x2 => some progEorDpInd
  | 0x3 => some progEorSrIndY
  | 0x4 => some progMvn
  | 0x5 => some progEorDpX
  | 0x6 => some progLsrDpX
  | 0x7 => some progEorDpLongY
  | 0x8 => some progCli
  | 0x9 => some progEorAbsY
  | 0xA => some progPhy
  | 0xB => some progTcd
  | 0xC => some progJmlLong
  | 0xD => some progEorAbsX
  | 0xE => some progLsrAbsX
  | _ => some progEorLongX

/-- Row 6 of the dispatch table. -/
def tableRow6 (lo : Nat) : Option (Regs → Prog) :=
  match lo with
  | 0x0 => some progRts
  | 0x1 => some progAdcDpXInd
  | 0x2 => some progPer
  | 0x3 => some progAdcSr
  | 0x4 => some progStzDp
  | 0x5 => some progAdcDp
  | 0x6 => some progRorDp
  | 0x7 => some progAdcDpLong
  | 0x8 => some progPla
  | 0x9 => some progAdcImm
  | 0xA => some progRorA
  | 0xB => some progRtl
  | 0xC => some progJmpInd
  | 0xD => some progAdcAbs
  | 0xE => some progRorAbs
  | _ => some progAdcLong

/-- Row 7 of the dispatch table. -/
def tableRow7 (lo : Nat) : Option (Regs → Prog) :=
  match lo with
  | 0x0 => some progBvs
  | 0x1 => some progAdcDpIndY
  | 0x2 => some progAdcDpInd
  | 0x3 => some progAdcSrIndY
  | 0x4 => some progStzDpX
  | 0x5 => some progAdcDpX
  | 0x6 => some progRorDpX
  | 0x7 => some progAdcDpLongY
  | 0x8 => some progSei
  | 0x9 => some progAdcAbsY
  | 0xA => some progPly
  | 0xB => some progTdc
  | 0xC => some progJmpXInd
  | 0xD => some progAdcAbsX
  | 0xE => some progRorAbsX
  | _ => some progAdcLongX

/-- Row 8 of the dispatch table. -/
def tableRow8 (lo : Nat) : Option (Regs → Prog) :=
  match lo with
  | 0x0 => some progBra
  | 0x1 => some progStaDpXInd
  | 0x2 => some progBrl
  | 0x3 => some progStaSr
  | 0x4 => some progStyDp
  | 0x5 => some progStaDp
  | 0x6 => some progStxDp
  | 0x7 => some progStaDpLong
  | 0x8 => some progDey
  | 0x9 => some progBitImm
  | 0xA => some progTxa
  | 0xB => some progPhb
  | 0xC => some progStyAbs
  | 0xD => some progStaAbs
  | 0xE => some progStxAbs
  | _ => some progStaLong

/-- Row 9 of the dispatch table. -/
def tableRow9 (lo : Nat) : Option (Regs → Prog) :=
  match lo with
  | 0x0 => some progBcc
  | 0x1 => some progStaDpIndY
  | 0x2 => some progStaDpInd
  | 0x3 => some progStaSrIndY
  | 0x4 => some progStyDpX
  | 0x5 => some progStaDpX
  | 0x6 => some progStxDpY
  | 0x7 => some progStaDpLongY
  | 0x8 => some progTya
  | 0x9 => some progStaAbsY
  | 0xA => some progTxs
  | 0xB => some progTxy
  | 0xC => some progStzAbs
  | 0xD => some progStaAbsX
  | 0xE => some progStzAbsX
  | _ => some progStaLongX

/-- Row A of the dispatch table. -/
def tableRowA (lo : Nat) : Option (Regs → Prog) :=
  match lo with
  | 0x0 => some progLdyImm
  | 0x1 => some progLdaDpXInd
  | 0x2 => some progLdxImm
  | 0x3 => some progLdaSr
  | 0x4 => some progLdyDp
  | 0x5 => some progLdaDp
  | 0x6 => some progLdxDp
  | 0x7 => some progLdaDpLong
  | 0x8 => some progTay
  | 0x9 => some progLdaImm
  | 0xA => some progTax
  | 0xB => some progPlb
  | 0xC => some progLdyAbs
  | 0xD => some progLdaAbs
  | 0xE => some progLdxAbs
  | _ => some progLdaLong

/-- Row B of the dispatch table. -/
def tableRowB (lo : Nat) : Option (Regs → Prog) :=
  match lo with
  | 0x0 => some progBcs
  | 0x1 => some progLdaDpIndY
  | 0x2 => some progLdaDpInd
  | 0x3 => some progLdaSrIndY
  | 0x4 => some progLdyDpX
  | 0x5 => some progLdaDpX
  | 0x6 => some progLdxDpY
  | 0x7 => some progLdaDpLongY
  | 0x8 => some progClv
  | 0x9 => some progLdaAbsY
  | 0xA => some progTsx
  | 0xB => some progTyx
  | 0xC => some progLdyAbsX
  | 0xD => some progLdaAbsX
  | 0xE => some progLdxAbsY
  | _ => some progLdaLongX

/-- Row C of the dispatch table. -/
def tableRowC (lo : Nat) : Option (Regs → Prog) :=
  match lo with
  | 0x0 => some progCpyImm
  | 0x1 => some progCmpDpXInd
  | 0x2 => some progRep
  | 0x3 => some progCmpSr
  | 0x4 => some progCpyDp
  | 0x5 => some progCmpDp
  | 0x6 => some progDecDp
  | 0x7 => some progCmpDpLong
  | 0x8 => some progIny
  | 0x9 => some progCmpImm
  | 0xA => some progDex
  | 0xB => none
  | 0xC => some progCpyAbs
  | 0xD => some progCmpAbs
  | 0xE => some progDecAbs
  | _ => some progCmpLong

/-- Row D of the dispatch table. -/
def tableRowD (lo : Nat) : Option (Regs → Prog) :=
  match lo with
  | 0x0 => some progBne
  | 0x1 => some progCmpDpIndY
  | 0x2 => some progCmpDpInd
  | 0x3 => some progCmpSrIndY
  | 0x4 => some progPei
  | 0x5 => some progCmpDpX
  | 0x6 => some progDecDpX
  | 0x7 => some progCmpDpLongY
  | 0x8 => some progCld
  | 0x9 => some progCmpAbsY
  | 0xA => some progPhx
  | 0xB => none
  | 0xC => some progJmlIndLong
  | 0xD => some progCmpAbsX
  | 0xE => some progDecAbsX
  | _ => some progCmpLongX

/-- Row E of the dispatch table. -/
def tableRowE (lo : Nat) : Option (Regs → Prog) :=
  match lo with
  | 0x0 => some progCpxImm
  | 0x1 => some progSbcDpXInd
  | 0x2 => some progSep
  | 0x3 => some progSbcSr
  | 0x4 => some progCpxDp
  | 0x5 => some progSbcDp
  | 0x6 => some progIncDp
  | 0x7 => some progSbcDpLong
  | 0x8 => some progInx
  | 0x9 => some progSbcImm
  | 0xA => some progNop
  | 0xB => some progXba
  | 0xC => some progCpxAbs
  | 0xD => some progSbcAbs
  | 0xE => some progIncAbs
  | _ => some progSbcLong

/-- Row F of the dispatch table. -/
def tableRowF (lo : Nat) : Option (Regs → Prog) :=
  match lo with
  | 0x0 => some progBeq
  | 0x1 => some progSbcDpIndY
  | 0x2 => some progSbcDpInd
  | 0x3 => some progSbcSrIndY
  | 0x4 => some progPea
  | 0x5 => some progSbcDpX
  | 0x6 => some progIncDpX
  | 0x7 => some progSbcDpLongY
  | 0x8 => some progSed
  | 0x9 => some progSbcAbsY
  | 0xA => some progPlx
  | 0xB => some progXce
  | 0xC => some progJsrXInd
  | 0xD => some progSbcAbsX
  | 0xE => some progIncAbsX
  | _ => some progSbcLongX

/-- The program of an opcode, or none where the dispatch table has no entry for it. -/
def progOf (op : Byte) : Option (Regs → Prog) :=
  let lo := op.toNat % 16
  match op.toNat / 16 with
  | 0x0 => tableRow0 lo
  | 0x1 => tableRow1 lo
  | 0x2 => tableRow2 lo
  | 0x3 => tableRow3 lo
  | 0x4 => tableRow4 lo
  | 0x5 => tableRow5 lo
  | 0x6 => tableRow6 lo
  | 0x7 => tableRow7 lo
  | 0x8 => tableRow8 lo
  | 0x9 => tableRow9 lo
  | 0xA => tableRowA lo
  | 0xB => tableRowB lo
  | 0xC => tableRowC lo
  | 0xD => tableRowD lo
  | 0xE => tableRowE lo
  | _ => tableRowF lo

end Sys2Proof.Machine
end

