-- ==== Sys2Proof/Machine/Engine.lean ====
section
/-! DEFINITION. The cycle-stepped dispatch engine (42_dispatch.md): `advance()` and its three steps, the committed
state at a boundary, the host's duties between two calls, `current_address()` and the `registers()` snapshot, and the
rest of an instruction in progress taken as one transition. -/

namespace Sys2Proof.Machine

/-- The deferred write-back of the instruction with these latches, from its row table (R205). -/
def Latches.writeBack (l : Latches) : Option (Byte → Except Fault Regs) :=
  (progOf l.op).bind fun p => (p l.base).deferred l.bytes

/-- `commit(s)` (R210): the write-back applied to the byte in the slot, or its fault, in which case the boundary has no
committed state. -/
def State.commit (s : State) : Except Fault State :=
  match s.wb with
  | none => .ok s
  | some l =>
    match l.writeBack with
    | none => .ok { s with wb := none }
    | some f =>
      match f s.dbus with
      | .ok r => .ok { s with regs := r, wb := none }
      | .error e => .error e

/-- The opcode fetch step (R202): the pending write-back first, then the Read at PB:PC; a fault of the write-back
takes the place of the step, with no bus cycle (R452). -/
def State.fetchStep (s : State) : CycleOutcome × State :=
  match s.commit with
  | .ok t => (.read, t.startFetch)
  | .error f => (.fault f, s.raise f)

/-- The fault of the decode step (R203, R451). -/
def State.decodeFault (s : State) : Fault := .unimplementedOpcode s.lat.op s.regs.pb s.lat.pc0

/-- The decode step (R203): the opcode is the byte in the slot; row 2 is performed in the same call. -/
def State.decodeStep (s : State) : CycleOutcome × State :=
  let t := s.latchOpcode s.dbus
  match t.dispatches t.lat.op, progOf t.lat.op with
  | true, some p => t.perform (p t.regs)
  | _, _ => (.fault t.decodeFault, t.raise t.decodeFault)

/-- The rows of the instruction in progress from row `k` on, by its latches (R204, R212). Row 2 is the first of the
program. -/
def State.rowsFrom (s : State) (op : Byte) (k : Nat) : Option Prog :=
  (progOf op).bind fun p => (p s.lat.base).after (k - 2) s.lat.bytes

/-- The instruction step (R204): the byte of the previous row is consumed and row `k` performed. A `cont` that names no
row of its table occurs in no run; the engine then fetches (log entry 10). -/
def State.instrStep (s : State) (op : Byte) (k : Nat) : CycleOutcome × State :=
  match s.consume.rowsFrom op k with
  | some p => s.consume.perform p
  | none => s.fetchStep

/-- `advance()` (R201): one bus cycle, or the fault of a halted block, again and without a change (R207). A call on a
block that was never reset is refused, without a change (R494, 93 I14; log entry 11). -/
def State.advance (s : State) : CycleOutcome × State :=
  if s.launched then
    match s.cont with
    | .halted f => (.fault f, s)
    | .fetch => s.fetchStep
    | .decode => s.decodeStep
    | .step op k => s.instrStep op k
  else (.refused .advanceBeforeReset, s)

/-- What the host does after a call (R208, R216): it answers a Read with the byte its memory holds, stores the byte of
a Write, and does nothing after an Internal cycle, a Fault or a refused call. That it is plain memory is log entry 13. -/
def State.serve (s : State) : CycleOutcome → State
  | .read => s.supply (s.readMem s.abus)
  | .write => s.store
  | .internal => s
  | .fault _ => s
  | .refused _ => s

/-- One call of `advance()` and the host's duty after it. -/
def State.tick (s : State) : State := s.advance.2.serve s.advance.1

/-- `n` calls, each followed by the host's duty. -/
def State.ticks : Nat → State → State
  | 0, s => s
  | n + 1, s => State.ticks n s.tick

/-- `current_address()` (R214). -/
def State.currentAddress (s : State) : Byte × Word := (bankOf s.abus, offsetOf s.abus)

/-- The register file as each row of a program leaves it, in order. `bs` are the bytes the rows have read so far; a byte
not read yet stands as `host` holds it. -/
def Prog.rowRegs (host : Addr → Byte) : Prog → List Byte → List Regs
  | .read _ _ r k, b :: bs => r :: (k b).rowRegs host bs
  | .read _ a r k, [] => r :: (k (host a)).rowRegs host []
  | .readLast _ _ r _, _ => [r]
  | .write _ _ r k, bs => r :: k.rowRegs host bs
  | .writeLast _ _ r, _ => [r]
  | .idle r k, bs => r :: k.rowRegs host bs
  | .idleLast r, _ => [r]

/-- The register file after the opcode fetch and after each later row of the instruction in progress: what its rows hold
before, between and after their own writes. The deferred write-back is none of them. -/
def State.rowRegs (s : State) (op : Byte) : List Regs :=
  s.lat.base :: ((progOf op).elim [] fun p => (p s.lat.base).rowRegs s.readMem s.lat.bytes)

/-- The opcodes whose deferred write-back writes PC: JMP and JML in every form, JSR (a,X) and RTL (R401 to R405, R407,
R410). -/
def wbWritersPC : List Byte := [0x4C#8, 0x5C#8, 0x6C#8, 0x7C#8, 0xDC#8, 0xFC#8, 0x6B#8]

/-- The register file that register number `k` is shown from between two calls (R211): the free choice of log entry 6. -/
def State.midRow (s : State) (op : Byte) (k : Nat) : Regs :=
  (s.rowRegs op).getD (Config.midChoice s.moment k) s.lat.base

/-- What `registers()` may show between two calls of the instruction with opcode `op` (R211, D10, 93 I10): every register
and flag has, freely chosen, one of the values that the rows of the instruction give it, old or new. A register that only
the deferred write-back writes therefore holds its old value, and so does PC where that write-back writes it: it is as
stored, with the increments of the instruction-stream Reads done so far (R204). -/
def State.midRegs (s : State) (op : Byte) : Regs :=
  { a := (s.midRow op 1).a, x := (s.midRow op 2).x, y := (s.midRow op 3).y, db := (s.midRow op 4).db
    d := (s.midRow op 5).d, pb := (s.midRow op 6).pb
    pc := if wbWritersPC.contains op then s.regs.pc else (s.midRow op 0).pc
    s := (s.midRow op 7).s, fN := (s.midRow op 8).fN, fV := (s.midRow op 9).fV, fM := (s.midRow op 10).fM
    fX := (s.midRow op 11).fX, fD := (s.midRow op 12).fD, fI := (s.midRow op 13).fI, fZ := (s.midRow op 14).fZ
    fC := (s.midRow op 15).fC, fE := (s.midRow op 16).fE }

/-- `registers()` (R40, R211): the registers as stored at a boundary, where those a pending write-back will write still
hold their old values, after the opcode fetch, and when halted; between other calls of an instruction, old or new values
for the registers that its rows write. -/
def State.registers (s : State) : Regs :=
  match s.cont with
  | .fetch => s.regs
  | .decode => s.regs
  | .halted _ => s.regs
  | .step op _ => s.midRegs op

/-- The rest of the instruction in progress, from between two of its calls to the committed state at the next boundary,
the host answering from its memory. At a boundary or when halted there is none. -/
def State.finishInstr (s : State) : State :=
  match s.cont with
  | .fetch => s
  | .halted _ => s
  | .decode =>
    let t := s.latchOpcode s.dbus
    match t.dispatches t.lat.op, progOf t.lat.op with
    | true, some p => (p t.regs).run [] t
    | _, _ => t.raise t.decodeFault
  | .step op k =>
    match s.consume.rowsFrom op k with
    | some p => p.run [] s.consume
    | none => s

end Sys2Proof.Machine
end

