-- ==== Sys2Proof/Machine/Fetch.lean ====
section
/-! DEFINITION. One transition from a boundary (42_dispatch.md R212): the pending write-back, the bytes at PB:PC, the
instruction they decode to under the width flags in force (30_encoding.md R97), and its meaning; and the placing of an
instruction where the next fetch reads it. -/

namespace Sys2Proof.Machine

/-- Byte `k` of the instruction stream at the boundary, at PB:(PC +16 k) (R90). -/
def State.codeByte (s : State) (k : Nat) : Byte := s.readMem (addr s.regs.pb (s.regs.pc + BitVec.ofNat 16 k))

/-- The instruction at PB:PC (R97, R100). -/
def State.fetchInstr (s : State) : Instr :=
  decodeOp s.regs.fM s.regs.fX (s.codeByte 0) (s.codeByte 1) (s.codeByte 2) (s.codeByte 3)

/-- From a boundary: the write-back is applied, or its fault taken (R202, R452), and the instruction at PB:PC runs. -/
def State.runBoundary (s : State) : Host.Outcome State Fault Refusal :=
  match s.commit with
  | .ok t => exec t.fetchInstr t
  | .error f => .next (s.raise f)

/-- The register file the next opcode fetch uses. -/
def State.fetchRegs (s : State) : Regs :=
  match s.commit with
  | .ok t => t.regs
  | .error _ => s.regs

/-- The state with an instruction's bytes stored at PB:PC of the boundary. -/
def State.placeCode (s : State) (code : List Byte) : State :=
  { s with mem := s.mem.setBytes s.fetchRegs.pb s.fetchRegs.pc code }

end Sys2Proof.Machine
end

