-- ==== Sys2Proof/Machine/Step.lean ====
section
/-! DEFINITION. One step of the machine: one instruction (42_dispatch.md R212). -/

namespace Sys2Proof.Machine

/-- One step (R212). From a boundary it is the instruction at PB:PC, from the middle of an instruction the rest of it (log entry 14).
A halted block answers with its fault, as every later `advance()` does (R207). A block that was never reset is refused
(R494, D21). -/
def step (s : State) : Host.Outcome State Fault Refusal :=
  if s.launched then
    match s.cont with
    | .halted f => .fault f
    | .fetch => s.runBoundary
    | .decode => .next s.finishInstr
    | .step _ _ => .next s.finishInstr
  else .refused .advanceBeforeReset

/-- The state with the instruction whose bits are `w`, numbered as the opcode table numbers them, stored where the next
step fetches: it stands for the load of a program (log entry 15). -/
def State.withFetchWord (s : State) (nbits w : Nat) : State := s.placeCode (tableBytes nbits w)

end Sys2Proof.Machine
end

