-- ==== Sys2Proof/Machine/Launch.lean ====
section
/-! DEFINITION. Launches and the end of a run (70_reset_and_hazards.md R494, R507, R508): a launch is `(v, END_ADDR,
M0)` with the free draws of reset and the parameter `IMPL_SET`; a run ends at the first boundary at END_ADDR. -/

namespace Sys2Proof.Machine

/-- The block before its first `reset` (R494), with the memory M0 its host answers from. All that the spec fixes there is
`cont = Fetch`; the registers, flags, buses, latches and pending write-back are unspecified and come from `u`, which is
any state. `trace` and `moment`, the model's own, start empty and at 0: DESIGN CHOICE, log entry 11. -/
def State.powerOn (u : State) (m0 : Memory) (implSet : BitVec 256) : State :=
  { u with cont := .fetch, mem := m0, implSet := implSet, launched := false, trace := [], moment := 0 }

/-- A launch (R507): `reset(v)` on a block whose host holds the memory M0. What is unspecified before that reset stands
here as in `State.reset`: DESIGN CHOICE, log entry 11; `reset` sets all of it, so no launch shows it
(`powerOn_resetTo`). -/
def launch (v : Word) (m0 : Memory) (implSet : BitVec 256) (dr : ResetDraw) (bd : BusDraw) : State :=
  (State.powerOn State.reset m0 implSet).resetTo v dr bd

/-- The reset vector's value when the host reads it from its memory (R492): the bytes at 0x00FFFC and 0x00FFFD, low
byte first. -/
def resetVector (m0 : Memory) : Word := word (m0.get 0xFFFD) (m0.get 0xFFFC)

/-- Where a run stands after some steps. -/
inductive RunResult where
  /-- The run has ended (R507), with the committed state. -/
  | ended (s : State)
  /-- The block has halted with a fault, which is never an end (R207, R507). -/
  | faulted (f : Fault) (s : State)
  /-- The machine refused to go on: the block was never reset, so this is no run (R507, R508; log entry 21). -/
  | stopped (r : Refusal)
  /-- Neither: the run goes on from here. -/
  | running (s : State)
  deriving DecidableEq, Repr

/-- Whether a state settles a run: it is halted, or it is a boundary whose write-back faults, or a boundary whose
committed PB:PC is END_ADDR (R507). A block that was never reset neither ends nor faults, whatever it holds: of that the
spec says nothing (R508), and that it is refused, as `step` refuses it, is the model's choice (DESIGN CHOICE, log
entry 21). -/
def State.settled (endAddr : Addr) (s : State) : Option RunResult :=
  if s.launched then
    match s.cont with
    | .halted f => some (.faulted f s)
    | .fetch =>
      match s.commit with
      | .error f => some (.faulted f (s.raise f))
      | .ok t => if t.regs.codeAddr = endAddr then some (.ended t) else none
    | .decode => none
    | .step _ _ => none
  else some (.stopped .advanceBeforeReset)

/-- A run of at most so many steps (R507): it ends at the first boundary at END_ADDR, before the opcode there is
fetched. A run of the spec begins with a launch; from any other state what this answers is the model's choice (DESIGN
CHOICE, log entry 21). -/
def runTo (endAddr : Addr) : Nat → State → RunResult
  | 0, s => (s.settled endAddr).getD (.running s)
  | n + 1, s =>
    match s.settled endAddr with
    | some r => r
    | none =>
      match step s with
      | .next t => runTo endAddr n t
      | .fault f => .faulted f s
      | .refused r => .stopped r

end Sys2Proof.Machine
end

