-- ==== Sys2Proof/Safety.lean ====
section
/-! DEFINITION. What claims about runs are stated in: boundaries, halted blocks, the register invariants of
10_state.md, the states a machine reaches, and a safe run. -/

namespace Sys2Proof.Machine

/-- A committed instruction boundary of a block that was reset (R210). -/
def State.AtBoundary (s : State) : Prop := s.launched = true ∧ s.cont = .fetch ∧ s.wb = none

/-- The block has halted with a fault (R207). -/
def State.Halted (s : State) : Prop := ∃ f, s.cont = .halted f

/-- The register invariants of every reachable state: emulation mode forces both width flags (R34) and pins SH to 0x01
(R28), and an 8-bit index width leaves XH and YH zero (R22, R23). -/
def Regs.Ok (r : Regs) : Prop :=
  (r.fE = true → r.fM = true ∧ r.fX = true ∧ hi8 r.s = 0x01#8) ∧
  (r.fX = true → hi8 r.x = 0x00#8 ∧ hi8 r.y = 0x00#8)

/-- The invariant of every reachable state: the register invariants, now and in the register files that the instruction in
progress or a pending write-back began with, and the canonical form of the memory. -/
def State.Inv (s : State) : Prop :=
  s.regs.Ok ∧ s.mem.wf = true ∧ (∀ op k, s.cont = .step op k → s.lat.base.Ok) ∧ (∀ l, s.wb = some l → l.base.Ok)

/-- The states that steps lead to from `s`. -/
inductive Reaches : State → State → Prop where
  | refl (s : State) : Reaches s s
  | step {s t u : State} (h : Reaches s t) (hs : Sys2Proof.Machine.step t = .next u) : Reaches s u

/-- A run from `s` is safe when no state it reaches has halted. -/
def SafeFrom (s : State) : Prop := ∀ t, Reaches s t → ¬ t.Halted

/-- The instruction runs to the next boundary: `exec` answers a next state with this register file, this memory and
this bus trace, with nothing pending, and with the parameter and the launch as they were (R210, R212). -/
def Completes (i : Instr) (s : State) (r : Regs) (m : Memory) (tr : List BusCycle) : Prop :=
  ∃ t, Sys2Proof.Machine.exec i s = .next t ∧ t.regs = r ∧ t.mem = m ∧ t.trace = tr ∧ t.cont = .fetch ∧
    t.wb = none ∧ t.implSet = s.implSet ∧ t.launched = s.launched

/-! ## The cycle tables as lists of rows

The rows of 41_addressing.md, written as the bus cycles of its tables, for claims about traces (R505). `s` is the
committed state before the instruction and `code` its operand bytes. -/

/-- The Read of the opcode, row 1 of every table (R202). -/
def State.opcodeRow (s : State) : List BusCycle := [.read (addr s.regs.pb s.regs.pc)]

/-- The Read of operand byte `k`, at PB:(PC0 +16 k) (R90). -/
def State.operandRow (s : State) (k : Nat) : BusCycle := .read (addr s.regs.pb (s.regs.pc + BitVec.ofNat 16 k))

/-- The Reads of `n` operand bytes, rows 2 on. -/
def State.operandRows (s : State) : Nat → List BusCycle
  | 0 => []
  | n + 1 => s.operandRows n ++ [s.operandRow (n + 1)]

/-- An Internal row under a condition. -/
def internalIf (c : Bool) : List BusCycle := if c then [.internal] else []

/-- Row 2 and row 2a of the direct modes: the Internal cycle exactly when DL is not 0 (R157). -/
def State.directRows (s : State) : List BusCycle := s.operandRows 1 ++ internalIf (lo8 s.regs.d != 0x00#8)

/-- `n` Reads at consecutive offsets of a bank. -/
def readRows (bank : Byte) (o : Word) : Nat → List BusCycle
  | 0 => []
  | n + 1 => readRows bank o n ++ [.read (addr bank (o + BitVec.ofNat 16 n))]

/-- The indexing row of a,X, a,Y and (d),Y: in the read class exactly when X_flag = 0 or the page is crossed (R155),
else always (R156). -/
def State.indexRows (s : State) (c : AccessClass) (aa index : Word) : List BusCycle :=
  internalIf (match c with
    | .read => !s.regs.fX || hi8 aa != hi8 (aa + index)
    | .write => true
    | .rmw => true)

/-- The address cycles of a mode (R160 to R174), after row 1. -/
def State.addressRows (s : State) (m : Mode) (c : AccessClass) (code : List Byte) : List BusCycle :=
  let off := zext (code.getD 0 0x00#8)
  let aa := word (code.getD 1 0x00#8) (code.getD 0 0x00#8)
  let d := s.regs.d + off
  let sp := s.regs.s + off
  match m with
  | .dp => s.directRows
  | .dpX => s.directRows ++ [.internal]
  | .dpY => s.directRows ++ [.internal]
  | .dpInd => s.directRows ++ readRows 0x00#8 d 2
  | .dpXInd => s.directRows ++ [.internal] ++ readRows 0x00#8 (d + s.regs.x) 2
  | .dpIndY => s.directRows ++ readRows 0x00#8 d 2 ++ s.indexRows c (s.readWord0 d) s.regs.y
  | .dpLong => s.directRows ++ readRows 0x00#8 d 3
  | .dpLongY => s.directRows ++ readRows 0x00#8 d 3
  | .abs => s.operandRows 2
  | .absX => s.operandRows 2 ++ s.indexRows c aa s.regs.x
  | .absY => s.operandRows 2 ++ s.indexRows c aa s.regs.y
  | .long => s.operandRows 3
  | .longX => s.operandRows 3
  | .sr => s.operandRows 1 ++ [.internal]
  | .srIndY => s.operandRows 1 ++ [.internal] ++ readRows 0x00#8 sp 2 ++ [.internal]

/-- The data phase READ(w) (R158). -/
def EA.readRows (ea : EA) (w8 : Bool) : List BusCycle := if w8 then [.read ea.lo] else [.read ea.lo, .read ea.hi]

/-- The data phase WRITE(w, v) (R158). -/
def EA.writeRows (ea : EA) (w8 : Bool) (v : Word) : List BusCycle :=
  if w8 then [.write ea.lo (lo8 v)] else [.write ea.lo (lo8 v), .write ea.hi (hi8 v)]

/-- The data phase RMW(w, f) where the result is `v` (R158). -/
def EA.rmwRows (ea : EA) (w8 : Bool) (v : Word) : List BusCycle :=
  if w8 then [.read ea.lo, .internal, .write ea.lo (lo8 v)]
  else [.read ea.lo, .read ea.hi, .internal, .write ea.hi (hi8 v), .write ea.lo (lo8 v)]

end Sys2Proof.Machine
end

