-- ==== Sys2Proof/Certificates/Slice0/Obligations.lean ====
section
/-! DEFINITION. The statements for the provers. Each says what its rules of spec/ say of an instruction or of the
machine. The namespace Sys2Proof.Claims holds the shared forms of the statements: an instruction's opcode, and, where
the opcode is dispatched, the next state `exec` answers (`Completes`): the whole register file, the whole memory and
the bus trace, so that what a statement does not change is left as it was. -/

namespace Sys2Proof.Claims

open Sys2Proof Sys2Proof.Machine

/-- A memory form of an instruction: its opcode, its addressing mode and its operand bytes. -/
structure Form where
  i : Instr
  op : Byte
  m : Mode
  code : List Byte

/-- The registers with PC past `n` bytes of the instruction, and nothing else changed. -/
def nextPc (s : State) (n : Nat) : Regs := { s.regs with pc := s.regs.pc + BitVec.ofNat 16 n }

/-- The effective address of a form. -/
def Form.ea (f : Form) (s : State) : EA := s.effAddr f.m f.code

/-- The registers with PC past a form. -/
def Form.next (f : Form) (s : State) : Regs := nextPc s (1 + f.code.length)

/-- The bus trace of a form of the read class. -/
def Form.readTrace (f : Form) (s : State) (w8 : Bool) : List BusCycle :=
  s.opcodeRow ++ s.addressRows f.m .read f.code ++ (f.ea s).readRows w8

/-- A memory form of the read class at the width `w8`: the operand is the byte at EA, or the word whose high byte is at
EAhi, and the instruction completes with the registers `r8` or `r16` gives, memory as it was. -/
def Form.Reads (f : Form) (s : State) (w8 : Bool) (r8 : Byte → Regs → Regs) (r16 : Word → Regs → Regs) : Prop :=
  f.i.opcode = f.op ∧ (s.dispatches f.op = true → Completes f.i s
    (if w8 then r8 (s.readMem (f.ea s).lo) (f.next s)
     else r16 (word (s.readMem (f.ea s).hi) (s.readMem (f.ea s).lo)) (f.next s))
    s.mem (f.readTrace s w8))

/-- The immediate form of the read class: one operand byte at 8 bits, two at 16. -/
def ReadsImm (i : Imm → Instr) (op : Byte) (s : State) (w8 : Bool) (r8 : Byte → Regs → Regs)
    (r16 : Word → Regs → Regs) : Prop :=
  (∀ v, (i v).opcode = op) ∧ (s.dispatches op = true →
    (w8 = true → ∀ v, Completes (i (.b8 v)) s (r8 v (nextPc s 2)) s.mem (s.opcodeRow ++ s.operandRows 1)) ∧
    (w8 = false → ∀ v, Completes (i (.b16 v)) s (r16 v (nextPc s 3)) s.mem (s.opcodeRow ++ s.operandRows 2)))

/-- A form of the write class at the width `w8`: the low byte of `v` at EA, and at 16 bits the high byte at EAhi. -/
def Form.Stores (f : Form) (s : State) (w8 : Bool) (v : Word) : Prop :=
  f.i.opcode = f.op ∧ (s.dispatches f.op = true → Completes f.i s (f.next s)
    (if w8 then s.mem.set (f.ea s).lo.toNat (lo8 v)
     else (s.mem.set (f.ea s).lo.toNat (lo8 v)).set (f.ea s).hi.toNat (hi8 v))
    (s.opcodeRow ++ s.addressRows f.m .write f.code ++ (f.ea s).writeRows w8 v))

/-- A memory form of the RMW class at the width of M: `f` gives the new operand and the registers with its flags; the
result is written high byte first. -/
def Form.Modifies (f : Form) (s : State) (op8 : Byte → Regs → Byte × Regs) (op16 : Word → Regs → Word × Regs) : Prop :=
  f.i.opcode = f.op ∧ (s.dispatches f.op = true →
    (s.regs.fM = true →
      let o := op8 (s.readMem (f.ea s).lo) (f.next s)
      Completes f.i s o.2 (s.mem.set (f.ea s).lo.toNat o.1)
        (s.opcodeRow ++ s.addressRows f.m .rmw f.code ++ (f.ea s).rmwRows true (zext o.1))) ∧
    (s.regs.fM = false →
      let o := op16 (word (s.readMem (f.ea s).hi) (s.readMem (f.ea s).lo)) (f.next s)
      Completes f.i s o.2 ((s.mem.set (f.ea s).hi.toNat (hi8 o.1)).set (f.ea s).lo.toNat (lo8 o.1))
        (s.opcodeRow ++ s.addressRows f.m .rmw f.code ++ (f.ea s).rmwRows false o.1)))

/-- A two-cycle instruction without operand bytes: the opcode Read and an Internal cycle. -/
def Implied (i : Instr) (op : Byte) (s : State) (f : Regs → Regs) : Prop :=
  i.opcode = op ∧ (s.dispatches op = true →
    Completes i s (f (nextPc s 1)) s.mem (s.opcodeRow ++ [.internal]))

/-- The decode step's fault (R451): after the opcode Read the block halts, with PC past the opcode and nothing else
changed. The fault is taken as a next state: DESIGN CHOICE, log entry 7. -/
def Rejects (i : Instr) (s : State) : Prop :=
  ∃ t, Sys2Proof.Machine.exec i s = .next t ∧
    t.cont = .halted (.unimplementedOpcode i.opcode s.regs.pb s.regs.pc) ∧
    t.regs = nextPc s 1 ∧ t.mem = s.mem ∧ t.trace = s.opcodeRow ∧ t.wb = s.wb ∧ t.implSet = s.implSet ∧
    t.launched = s.launched

/-! ## What the instructions do with their operand -/

/-- `AL <- v` with Z and N: AH is left (R21, R120). -/
def loadA8 (v : Byte) (r : Regs) : Regs := { r with a := word (hi8 r.a) v, fZ := v == 0#8, fN := v.msb }
/-- `A <- v` with Z and N. -/
def loadA16 (v : Word) (r : Regs) : Regs := { r with a := v, fZ := v == 0#16, fN := v.msb }
/-- `XL <- v` with Z and N. -/
def loadX8 (v : Byte) (r : Regs) : Regs := { r with x := word (hi8 r.x) v, fZ := v == 0#8, fN := v.msb }
/-- `X <- v` with Z and N. -/
def loadX16 (v : Word) (r : Regs) : Regs := { r with x := v, fZ := v == 0#16, fN := v.msb }
/-- `YL <- v` with Z and N. -/
def loadY8 (v : Byte) (r : Regs) : Regs := { r with y := word (hi8 r.y) v, fZ := v == 0#8, fN := v.msb }
/-- `Y <- v` with Z and N. -/
def loadY16 (v : Word) (r : Regs) : Regs := { r with y := v, fZ := v == 0#16, fN := v.msb }

/-- The write-back of ADC and SBC at 8 bits: A, C, V, Z and N. -/
def sum8 (o : AluOut 8) (r : Regs) : Regs := { loadA8 o.res r with fC := o.c, fV := o.v }
/-- The write-back of ADC and SBC at 16 bits. -/
def sum16 (o : AluOut 16) (r : Regs) : Regs := { loadA16 o.res r with fC := o.c, fV := o.v }

/-- The flags of a comparison of `v` with `b` (R123): C unsigned, Z equality, N the sign of the difference. -/
def compared {n : Nat} (v b : BitVec n) (r : Regs) : Regs :=
  { r with fC := decide (v.toNat ≥ b.toNat), fZ := decide (v = b), fN := (v - b).msb }

/-- A shifted operand with C, Z and N. -/
def shifted {n : Nat} (v : BitVec n) (c : Bool) (r : Regs) : BitVec n × Regs :=
  (v, { r with fC := c, fZ := v == 0#n, fN := v.msb })

/-- ASL: C is the bit shifted out (R126). -/
def asl {n : Nat} (v : BitVec n) (r : Regs) : BitVec n × Regs := shifted (v <<< 1) v.msb r
/-- LSR (R127). -/
def lsr {n : Nat} (v : BitVec n) (r : Regs) : BitVec n × Regs := shifted (v >>> 1) (v.getLsbD 0) r
/-- ROL through the carry (R128). -/
def rol {n : Nat} (v : BitVec n) (r : Regs) : BitVec n × Regs :=
  shifted ((v <<< 1) ||| (BitVec.ofBool r.fC).setWidth n) v.msb r
/-- ROR through the carry (R129). -/
def ror {n : Nat} (v : BitVec n) (r : Regs) : BitVec n × Regs :=
  shifted ((v >>> 1) ||| ((BitVec.ofBool r.fC).setWidth n <<< (n - 1))) (v.getLsbD 0) r
/-- A counted operand with Z and N. -/
def counted {n : Nat} (v : BitVec n) (r : Regs) : BitVec n × Regs := (v, { r with fZ := v == 0#n, fN := v.msb })
/-- INC (R130). -/
def incr {n : Nat} (v : BitVec n) (r : Regs) : BitVec n × Regs := counted (v + 1#n) r
/-- DEC (R131). -/
def decr {n : Nat} (v : BitVec n) (r : Regs) : BitVec n × Regs := counted (v - 1#n) r
/-- TSB (R132): Z from the bits before the set. -/
def tsb {n : Nat} (a v : BitVec n) (r : Regs) : BitVec n × Regs := (v ||| a, { r with fZ := (a &&& v) == 0#n })
/-- TRB (R133). -/
def trb {n : Nat} (a v : BitVec n) (r : Regs) : BitVec n × Regs := (v &&& ~~~a, { r with fZ := (a &&& v) == 0#n })

/-- The accumulator form of a function at the width of M (R175). -/
def onA (f8 : Byte → Regs → Byte × Regs) (f16 : Word → Regs → Word × Regs) (r : Regs) : Regs :=
  if r.fM then { (f8 (lo8 r.a) r).2 with a := word (hi8 r.a) (f8 (lo8 r.a) r).1 }
  else { (f16 r.a r).2 with a := (f16 r.a r).1 }

/-- The write of a whole status byte (R369). -/
def writeP (v : Byte) (r : Regs) : Regs :=
  let narrow (w : Word) : Word := if !r.fE && !r.fX && v.getLsbD 4 then word 0x00#8 (lo8 w) else w
  { r with
    fN := v.getLsbD 7, fV := v.getLsbD 6, fD := v.getLsbD 3, fI := v.getLsbD 2, fZ := v.getLsbD 1, fC := v.getLsbD 0
    fM := if r.fE then r.fM else v.getLsbD 5
    fX := if r.fE then r.fX else v.getLsbD 4
    x := narrow r.x
    y := narrow r.y }

/-- A push of one byte (R324). -/
def Pushes8 (i : Instr) (op : Byte) (s : State) (v : Byte) : Prop :=
  i.opcode = op ∧ (s.dispatches op = true →
    Completes i s (nextPc s 1).decS (s.mem.set (addr 0x00#8 s.regs.s).toNat v)
      (s.opcodeRow ++ [.internal, .write (addr 0x00#8 s.regs.s) v]))

/-- The memory after a 16-bit push from `r`: high byte at S, low byte at S after `decS()` (R74). -/
def pushed16 (m : Memory) (r : Regs) (v : Word) : Memory :=
  (m.set (addr 0x00#8 r.s).toNat (hi8 v)).set (addr 0x00#8 r.decS.s).toNat (lo8 v)

/-- The rows of a 16-bit push. -/
def pushRows16 (r : Regs) (v : Word) : List BusCycle :=
  [.write (addr 0x00#8 r.s) (hi8 v), .write (addr 0x00#8 r.decS.s) (lo8 v)]

/-- A push of two bytes (R324). -/
def Pushes16 (i : Instr) (op : Byte) (s : State) (v : Word) : Prop :=
  i.opcode = op ∧ (s.dispatches op = true →
    Completes i s (nextPc s 1).decS.decS (pushed16 s.mem s.regs v)
      (s.opcodeRow ++ [.internal] ++ pushRows16 s.regs v))

/-- The byte a pull from `r` reads, at S after `incS()` (R73). -/
def pulled (s : State) (r : Regs) : Byte := s.readMem (addr 0x00#8 r.incS.s)

/-- A pull of one byte (R332): `f` is the write-back. -/
def Pulls8 (i : Instr) (op : Byte) (s : State) (f : Byte → Regs → Regs) : Prop :=
  i.opcode = op ∧ (s.dispatches op = true →
    Completes i s (f (pulled s s.regs) (nextPc s 1).incS) s.mem
      (s.opcodeRow ++ [.internal, .internal, .read (addr 0x00#8 s.regs.incS.s)]))

/-- A pull of two bytes, low byte first (R332). -/
def Pulls16 (i : Instr) (op : Byte) (s : State) (f : Word → Regs → Regs) : Prop :=
  i.opcode = op ∧ (s.dispatches op = true →
    Completes i s (f (word (pulled s s.regs.incS) (pulled s s.regs)) (nextPc s 1).incS.incS) s.mem
      (s.opcodeRow ++ [.internal, .internal, .read (addr 0x00#8 s.regs.incS.s),
        .read (addr 0x00#8 s.regs.incS.incS.s)]))

/-- A short branch (R390). -/
def Branches (i : Byte → Instr) (op : Byte) (s : State) (rel : Byte) (taken : Bool) : Prop :=
  (i rel).opcode = op ∧ (s.dispatches op = true →
    let next := s.regs.pc + 2#16
    let target := next + sext rel
    Completes (i rel) s { s.regs with pc := if taken then target else next } s.mem
      (s.opcodeRow ++ s.operandRows 1 ++ internalIf taken ++
        internalIf (taken && s.regs.fE && hi8 target != hi8 next)))

/-! ## The memory forms, with the opcodes of the encoding lines of their rules -/

/-- The memory forms of LDA. -/
def ldaForms (b : Byte) (w : Word) (l : Addr) : List Form := [
  ⟨.ldaDpXInd b, 0xA1#8, .dpXInd, [b]⟩, ⟨.ldaSr b, 0xA3#8, .sr, [b]⟩, ⟨.ldaDp b, 0xA5#8, .dp, [b]⟩,
  ⟨.ldaDpLong b, 0xA7#8, .dpLong, [b]⟩, ⟨.ldaAbs w, 0xAD#8, .abs, bytesW w⟩,
  ⟨.ldaLong l, 0xAF#8, .long, bytesL l⟩, ⟨.ldaDpIndY b, 0xB1#8, .dpIndY, [b]⟩,
  ⟨.ldaDpInd b, 0xB2#8, .dpInd, [b]⟩, ⟨.ldaSrIndY b, 0xB3#8, .srIndY, [b]⟩, ⟨.ldaDpX b, 0xB5#8, .dpX, [b]⟩,
  ⟨.ldaDpLongY b, 0xB7#8, .dpLongY, [b]⟩, ⟨.ldaAbsY w, 0xB9#8, .absY, bytesW w⟩,
  ⟨.ldaAbsX w, 0xBD#8, .absX, bytesW w⟩, ⟨.ldaLongX l, 0xBF#8, .longX, bytesL l⟩]

/-- The memory forms of LDX. -/
def ldxForms (b : Byte) (w : Word) (_l : Addr) : List Form := [
  ⟨.ldxDp b, 0xA6#8, .dp, [b]⟩, ⟨.ldxAbs w, 0xAE#8, .abs, bytesW w⟩, ⟨.ldxDpY b, 0xB6#8, .dpY, [b]⟩,
  ⟨.ldxAbsY w, 0xBE#8, .absY, bytesW w⟩]

/-- The memory forms of LDY. -/
def ldyForms (b : Byte) (w : Word) (_l : Addr) : List Form := [
  ⟨.ldyDp b, 0xA4#8, .dp, [b]⟩, ⟨.ldyAbs w, 0xAC#8, .abs, bytesW w⟩, ⟨.ldyDpX b, 0xB4#8, .dpX, [b]⟩,
  ⟨.ldyAbsX w, 0xBC#8, .absX, bytesW w⟩]

/-- The memory forms of STA. -/
def staForms (b : Byte) (w : Word) (l : Addr) : List Form := [
  ⟨.staDpXInd b, 0x81#8, .dpXInd, [b]⟩, ⟨.staSr b, 0x83#8, .sr, [b]⟩, ⟨.staDp b, 0x85#8, .dp, [b]⟩,
  ⟨.staDpLong b, 0x87#8, .dpLong, [b]⟩, ⟨.staAbs w, 0x8D#8, .abs, bytesW w⟩,
  ⟨.staLong l, 0x8F#8, .long, bytesL l⟩, ⟨.staDpIndY b, 0x91#8, .dpIndY, [b]⟩,
  ⟨.staDpInd b, 0x92#8, .dpInd, [b]⟩, ⟨.staSrIndY b, 0x93#8, .srIndY, [b]⟩, ⟨.staDpX b, 0x95#8, .dpX, [b]⟩,
  ⟨.staDpLongY b, 0x97#8, .dpLongY, [b]⟩, ⟨.staAbsY w, 0x99#8, .absY, bytesW w⟩,
  ⟨.staAbsX w, 0x9D#8, .absX, bytesW w⟩, ⟨.staLongX l, 0x9F#8, .longX, bytesL l⟩]

/-- The memory forms of STX. -/
def stxForms (b : Byte) (w : Word) (_l : Addr) : List Form := [
  ⟨.stxDp b, 0x86#8, .dp, [b]⟩, ⟨.stxAbs w, 0x8E#8, .abs, bytesW w⟩, ⟨.stxDpY b, 0x96#8, .dpY, [b]⟩]

/-- The memory forms of STY. -/
def styForms (b : Byte) (w : Word) (_l : Addr) : List Form := [
  ⟨.styDp b, 0x84#8, .dp, [b]⟩, ⟨.styAbs w, 0x8C#8, .abs, bytesW w⟩, ⟨.styDpX b, 0x94#8, .dpX, [b]⟩]

/-- The memory forms of STZ. -/
def stzForms (b : Byte) (w : Word) (_l : Addr) : List Form := [
  ⟨.stzDp b, 0x64#8, .dp, [b]⟩, ⟨.stzDpX b, 0x74#8, .dpX, [b]⟩, ⟨.stzAbs w, 0x9C#8, .abs, bytesW w⟩,
  ⟨.stzAbsX w, 0x9E#8, .absX, bytesW w⟩]

/-- The memory forms of ADC. -/
def adcForms (b : Byte) (w : Word) (l : Addr) : List Form := [
  ⟨.adcDpXInd b, 0x61#8, .dpXInd, [b]⟩, ⟨.adcSr b, 0x63#8, .sr, [b]⟩, ⟨.adcDp b, 0x65#8, .dp, [b]⟩,
  ⟨.adcDpLong b, 0x67#8, .dpLong, [b]⟩, ⟨.adcAbs w, 0x6D#8, .abs, bytesW w⟩,
  ⟨.adcLong l, 0x6F#8, .long, bytesL l⟩, ⟨.adcDpIndY b, 0x71#8, .dpIndY, [b]⟩,
  ⟨.adcDpInd b, 0x72#8, .dpInd, [b]⟩, ⟨.adcSrIndY b, 0x73#8, .srIndY, [b]⟩, ⟨.adcDpX b, 0x75#8, .dpX, [b]⟩,
  ⟨.adcDpLongY b, 0x77#8, .dpLongY, [b]⟩, ⟨.adcAbsY w, 0x79#8, .absY, bytesW w⟩,
  ⟨.adcAbsX w, 0x7D#8, .absX, bytesW w⟩, ⟨.adcLongX l, 0x7F#8, .longX, bytesL l⟩]

/-- The memory forms of SBC. -/
def sbcForms (b : Byte) (w : Word) (l : Addr) : List Form := [
  ⟨.sbcDpXInd b, 0xE1#8, .dpXInd, [b]⟩, ⟨.sbcSr b, 0xE3#8, .sr, [b]⟩, ⟨.sbcDp b, 0xE5#8, .dp, [b]⟩,
  ⟨.sbcDpLong b, 0xE7#8, .dpLong, [b]⟩, ⟨.sbcAbs w, 0xED#8, .abs, bytesW w⟩,
  ⟨.sbcLong l, 0xEF#8, .long, bytesL l⟩, ⟨.sbcDpIndY b, 0xF1#8, .dpIndY, [b]⟩,
  ⟨.sbcDpInd b, 0xF2#8, .dpInd, [b]⟩, ⟨.sbcSrIndY b, 0xF3#8, .srIndY, [b]⟩, ⟨.sbcDpX b, 0xF5#8, .dpX, [b]⟩,
  ⟨.sbcDpLongY b, 0xF7#8, .dpLongY, [b]⟩, ⟨.sbcAbsY w, 0xF9#8, .absY, bytesW w⟩,
  ⟨.sbcAbsX w, 0xFD#8, .absX, bytesW w⟩, ⟨.sbcLongX l, 0xFF#8, .longX, bytesL l⟩]

/-- The memory forms of CMP. -/
def cmpForms (b : Byte) (w : Word) (l : Addr) : List Form := [
  ⟨.cmpDpXInd b, 0xC1#8, .dpXInd, [b]⟩, ⟨.cmpSr b, 0xC3#8, .sr, [b]⟩, ⟨.cmpDp b, 0xC5#8, .dp, [b]⟩,
  ⟨.cmpDpLong b, 0xC7#8, .dpLong, [b]⟩, ⟨.cmpAbs w, 0xCD#8, .abs, bytesW w⟩,
  ⟨.cmpLong l, 0xCF#8, .long, bytesL l⟩, ⟨.cmpDpIndY b, 0xD1#8, .dpIndY, [b]⟩,
  ⟨.cmpDpInd b, 0xD2#8, .dpInd, [b]⟩, ⟨.cmpSrIndY b, 0xD3#8, .srIndY, [b]⟩, ⟨.cmpDpX b, 0xD5#8, .dpX, [b]⟩,
  ⟨.cmpDpLongY b, 0xD7#8, .dpLongY, [b]⟩, ⟨.cmpAbsY w, 0xD9#8, .absY, bytesW w⟩,
  ⟨.cmpAbsX w, 0xDD#8, .absX, bytesW w⟩, ⟨.cmpLongX l, 0xDF#8, .longX, bytesL l⟩]

/-- The memory forms of CPX. -/
def cpxForms (b : Byte) (w : Word) (_l : Addr) : List Form := [
  ⟨.cpxDp b, 0xE4#8, .dp, [b]⟩, ⟨.cpxAbs w, 0xEC#8, .abs, bytesW w⟩]

/-- The memory forms of CPY. -/
def cpyForms (b : Byte) (w : Word) (_l : Addr) : List Form := [
  ⟨.cpyDp b, 0xC4#8, .dp, [b]⟩, ⟨.cpyAbs w, 0xCC#8, .abs, bytesW w⟩]

/-- The memory forms of AND. -/
def andForms (b : Byte) (w : Word) (l : Addr) : List Form := [
  ⟨.andDpXInd b, 0x21#8, .dpXInd, [b]⟩, ⟨.andSr b, 0x23#8, .sr, [b]⟩, ⟨.andDp b, 0x25#8, .dp, [b]⟩,
  ⟨.andDpLong b, 0x27#8, .dpLong, [b]⟩, ⟨.andAbs w, 0x2D#8, .abs, bytesW w⟩,
  ⟨.andLong l, 0x2F#8, .long, bytesL l⟩, ⟨.andDpIndY b, 0x31#8, .dpIndY, [b]⟩,
  ⟨.andDpInd b, 0x32#8, .dpInd, [b]⟩, ⟨.andSrIndY b, 0x33#8, .srIndY, [b]⟩, ⟨.andDpX b, 0x35#8, .dpX, [b]⟩,
  ⟨.andDpLongY b, 0x37#8, .dpLongY, [b]⟩, ⟨.andAbsY w, 0x39#8, .absY, bytesW w⟩,
  ⟨.andAbsX w, 0x3D#8, .absX, bytesW w⟩, ⟨.andLongX l, 0x3F#8, .longX, bytesL l⟩]

/-- The memory forms of ORA. -/
def oraForms (b : Byte) (w : Word) (l : Addr) : List Form := [
  ⟨.oraDpXInd b, 0x01#8, .dpXInd, [b]⟩, ⟨.oraSr b, 0x03#8, .sr, [b]⟩, ⟨.oraDp b, 0x05#8, .dp, [b]⟩,
  ⟨.oraDpLong b, 0x07#8, .dpLong, [b]⟩, ⟨.oraAbs w, 0x0D#8, .abs, bytesW w⟩,
  ⟨.oraLong l, 0x0F#8, .long, bytesL l⟩, ⟨.oraDpIndY b, 0x11#8, .dpIndY, [b]⟩,
  ⟨.oraDpInd b, 0x12#8, .dpInd, [b]⟩, ⟨.oraSrIndY b, 0x13#8, .srIndY, [b]⟩, ⟨.oraDpX b, 0x15#8, .dpX, [b]⟩,
  ⟨.oraDpLongY b, 0x17#8, .dpLongY, [b]⟩, ⟨.oraAbsY w, 0x19#8, .absY, bytesW w⟩,
  ⟨.oraAbsX w, 0x1D#8, .absX, bytesW w⟩, ⟨.oraLongX l, 0x1F#8, .longX, bytesL l⟩]

/-- The memory forms of EOR. -/
def eorForms (b : Byte) (w : Word) (l : Addr) : List Form := [
  ⟨.eorDpXInd b, 0x41#8, .dpXInd, [b]⟩, ⟨.eorSr b, 0x43#8, .sr, [b]⟩, ⟨.eorDp b, 0x45#8, .dp, [b]⟩,
  ⟨.eorDpLong b, 0x47#8, .dpLong, [b]⟩, ⟨.eorAbs w, 0x4D#8, .abs, bytesW w⟩,
  ⟨.eorLong l, 0x4F#8, .long, bytesL l⟩, ⟨.eorDpIndY b, 0x51#8, .dpIndY, [b]⟩,
  ⟨.eorDpInd b, 0x52#8, .dpInd, [b]⟩, ⟨.eorSrIndY b, 0x53#8, .srIndY, [b]⟩, ⟨.eorDpX b, 0x55#8, .dpX, [b]⟩,
  ⟨.eorDpLongY b, 0x57#8, .dpLongY, [b]⟩, ⟨.eorAbsY w, 0x59#8, .absY, bytesW w⟩,
  ⟨.eorAbsX w, 0x5D#8, .absX, bytesW w⟩, ⟨.eorLongX l, 0x5F#8, .longX, bytesL l⟩]

/-- The memory forms of BIT. -/
def bitForms (b : Byte) (w : Word) (_l : Addr) : List Form := [
  ⟨.bitDp b, 0x24#8, .dp, [b]⟩, ⟨.bitAbs w, 0x2C#8, .abs, bytesW w⟩, ⟨.bitDpX b, 0x34#8, .dpX, [b]⟩,
  ⟨.bitAbsX w, 0x3C#8, .absX, bytesW w⟩]

/-- The memory forms of ASL. -/
def aslForms (b : Byte) (w : Word) (_l : Addr) : List Form := [
  ⟨.aslDp b, 0x06#8, .dp, [b]⟩, ⟨.aslAbs w, 0x0E#8, .abs, bytesW w⟩, ⟨.aslDpX b, 0x16#8, .dpX, [b]⟩,
  ⟨.aslAbsX w, 0x1E#8, .absX, bytesW w⟩]

/-- The memory forms of LSR. -/
def lsrForms (b : Byte) (w : Word) (_l : Addr) : List Form := [
  ⟨.lsrDp b, 0x46#8, .dp, [b]⟩, ⟨.lsrAbs w, 0x4E#8, .abs, bytesW w⟩, ⟨.lsrDpX b, 0x56#8, .dpX, [b]⟩,
  ⟨.lsrAbsX w, 0x5E#8, .absX, bytesW w⟩]

/-- The memory forms of ROL. -/
def rolForms (b : Byte) (w : Word) (_l : Addr) : List Form := [
  ⟨.rolDp b, 0x26#8, .dp, [b]⟩, ⟨.rolAbs w, 0x2E#8, .abs, bytesW w⟩, ⟨.rolDpX b, 0x36#8, .dpX, [b]⟩,
  ⟨.rolAbsX w, 0x3E#8, .absX, bytesW w⟩]

/-- The memory forms of ROR. -/
def rorForms (b : Byte) (w : Word) (_l : Addr) : List Form := [
  ⟨.rorDp b, 0x66#8, .dp, [b]⟩, ⟨.rorAbs w, 0x6E#8, .abs, bytesW w⟩, ⟨.rorDpX b, 0x76#8, .dpX, [b]⟩,
  ⟨.rorAbsX w, 0x7E#8, .absX, bytesW w⟩]

/-- The memory forms of INC. -/
def incForms (b : Byte) (w : Word) (_l : Addr) : List Form := [
  ⟨.incDp b, 0xE6#8, .dp, [b]⟩, ⟨.incAbs w, 0xEE#8, .abs, bytesW w⟩, ⟨.incDpX b, 0xF6#8, .dpX, [b]⟩,
  ⟨.incAbsX w, 0xFE#8, .absX, bytesW w⟩]

/-- The memory forms of DEC. -/
def decForms (b : Byte) (w : Word) (_l : Addr) : List Form := [
  ⟨.decDp b, 0xC6#8, .dp, [b]⟩, ⟨.decAbs w, 0xCE#8, .abs, bytesW w⟩, ⟨.decDpX b, 0xD6#8, .dpX, [b]⟩,
  ⟨.decAbsX w, 0xDE#8, .absX, bytesW w⟩]

/-- The memory forms of TSB. -/
def tsbForms (b : Byte) (w : Word) (_l : Addr) : List Form := [
  ⟨.tsbDp b, 0x04#8, .dp, [b]⟩, ⟨.tsbAbs w, 0x0C#8, .abs, bytesW w⟩]

/-- The memory forms of TRB. -/
def trbForms (b : Byte) (w : Word) (_l : Addr) : List Form := [
  ⟨.trbDp b, 0x14#8, .dp, [b]⟩, ⟨.trbAbs w, 0x1C#8, .abs, bytesW w⟩]

/-! ## The flag writers of R38 -/

/-- The opcodes of the instructions that R38 lists as writers of N. -/
def writersN : List Byte :=
  [0x01#8, 0x03#8, 0x05#8, 0x06#8, 0x07#8, 0x09#8, 0x0A#8, 0x0D#8, 0x0E#8, 0x0F#8, 0x11#8, 0x12#8, 0x13#8,
   0x15#8, 0x16#8, 0x17#8, 0x19#8, 0x1A#8, 0x1D#8, 0x1E#8, 0x1F#8, 0x21#8, 0x23#8, 0x24#8, 0x25#8, 0x26#8,
   0x27#8, 0x28#8, 0x29#8, 0x2A#8, 0x2B#8, 0x2C#8, 0x2D#8, 0x2E#8, 0x2F#8, 0x31#8, 0x32#8, 0x33#8, 0x34#8,
   0x35#8] ++
  [0x36#8, 0x37#8, 0x39#8, 0x3A#8, 0x3B#8, 0x3C#8, 0x3D#8, 0x3E#8, 0x3F#8, 0x41#8, 0x43#8, 0x45#8, 0x46#8,
   0x47#8, 0x49#8, 0x4A#8, 0x4D#8, 0x4E#8, 0x4F#8, 0x51#8, 0x52#8, 0x53#8, 0x55#8, 0x56#8, 0x57#8, 0x59#8,
   0x5B#8, 0x5D#8, 0x5E#8, 0x5F#8, 0x61#8, 0x63#8, 0x65#8, 0x66#8, 0x67#8, 0x68#8, 0x69#8, 0x6A#8, 0x6D#8,
   0x6E#8] ++
  [0x6F#8, 0x71#8, 0x72#8, 0x73#8, 0x75#8, 0x76#8, 0x77#8, 0x79#8, 0x7A#8, 0x7B#8, 0x7D#8, 0x7E#8, 0x7F#8,
   0x88#8, 0x8A#8, 0x98#8, 0x9B#8, 0xA0#8, 0xA1#8, 0xA2#8, 0xA3#8, 0xA4#8, 0xA5#8, 0xA6#8, 0xA7#8, 0xA8#8,
   0xA9#8, 0xAA#8, 0xAB#8, 0xAC#8, 0xAD#8, 0xAE#8, 0xAF#8, 0xB1#8, 0xB2#8, 0xB3#8, 0xB4#8, 0xB5#8, 0xB6#8,
   0xB7#8] ++
  [0xB9#8, 0xBA#8, 0xBB#8, 0xBC#8, 0xBD#8, 0xBE#8, 0xBF#8, 0xC0#8, 0xC1#8, 0xC2#8, 0xC3#8, 0xC4#8, 0xC5#8,
   0xC6#8, 0xC7#8, 0xC8#8, 0xC9#8, 0xCA#8, 0xCC#8, 0xCD#8, 0xCE#8, 0xCF#8, 0xD1#8, 0xD2#8, 0xD3#8, 0xD5#8,
   0xD6#8, 0xD7#8, 0xD9#8, 0xDD#8, 0xDE#8, 0xDF#8, 0xE0#8, 0xE1#8, 0xE2#8, 0xE3#8, 0xE4#8, 0xE5#8, 0xE6#8,
   0xE7#8] ++
  [0xE8#8, 0xE9#8, 0xEB#8, 0xEC#8, 0xED#8, 0xEE#8, 0xEF#8, 0xF1#8, 0xF2#8, 0xF3#8, 0xF5#8, 0xF6#8, 0xF7#8,
   0xF9#8, 0xFA#8, 0xFD#8, 0xFE#8, 0xFF#8]

/-- The opcodes of the instructions that R38 lists as writers of V. -/
def writersV : List Byte :=
  [0x24#8, 0x28#8, 0x2C#8, 0x34#8, 0x3C#8, 0x61#8, 0x63#8, 0x65#8, 0x67#8, 0x69#8, 0x6D#8, 0x6F#8, 0x71#8, 0x72#8,
   0x73#8, 0x75#8, 0x77#8, 0x79#8, 0x7D#8, 0x7F#8, 0xB8#8, 0xC2#8, 0xE1#8, 0xE2#8, 0xE3#8, 0xE5#8, 0xE7#8, 0xE9#8,
   0xED#8, 0xEF#8, 0xF1#8, 0xF2#8, 0xF3#8, 0xF5#8, 0xF7#8, 0xF9#8, 0xFD#8, 0xFF#8]

/-- The opcodes of the instructions that R38 lists as writers of M and X_flag. -/
def writersM : List Byte :=
  [0x28#8, 0xC2#8, 0xE2#8, 0xFB#8]

/-- The opcodes of the instructions that R38 lists as writers of D. -/
def writersD : List Byte :=
  [0x28#8, 0xC2#8, 0xD8#8, 0xE2#8, 0xF8#8]

/-- The opcodes of the instructions that R38 lists as writers of I. -/
def writersI : List Byte :=
  [0x28#8, 0x58#8, 0x78#8, 0xC2#8, 0xE2#8]

/-- The opcodes of the instructions that R38 lists as writers of Z. -/
def writersZ : List Byte :=
  [0x01#8, 0x03#8, 0x04#8, 0x05#8, 0x06#8, 0x07#8, 0x09#8, 0x0A#8, 0x0C#8, 0x0D#8, 0x0E#8, 0x0F#8, 0x11#8,
   0x12#8, 0x13#8, 0x14#8, 0x15#8, 0x16#8, 0x17#8, 0x19#8, 0x1A#8, 0x1C#8, 0x1D#8, 0x1E#8, 0x1F#8, 0x21#8,
   0x23#8, 0x24#8, 0x25#8, 0x26#8, 0x27#8, 0x28#8, 0x29#8, 0x2A#8, 0x2B#8, 0x2C#8, 0x2D#8, 0x2E#8, 0x2F#8,
   0x31#8] ++
  [0x32#8, 0x33#8, 0x34#8, 0x35#8, 0x36#8, 0x37#8, 0x39#8, 0x3A#8, 0x3B#8, 0x3C#8, 0x3D#8, 0x3E#8, 0x3F#8,
   0x41#8, 0x43#8, 0x45#8, 0x46#8, 0x47#8, 0x49#8, 0x4A#8, 0x4D#8, 0x4E#8, 0x4F#8, 0x51#8, 0x52#8, 0x53#8,
   0x55#8, 0x56#8, 0x57#8, 0x59#8, 0x5B#8, 0x5D#8, 0x5E#8, 0x5F#8, 0x61#8, 0x63#8, 0x65#8, 0x66#8, 0x67#8,
   0x68#8] ++
  [0x69#8, 0x6A#8, 0x6D#8, 0x6E#8, 0x6F#8, 0x71#8, 0x72#8, 0x73#8, 0x75#8, 0x76#8, 0x77#8, 0x79#8, 0x7A#8,
   0x7B#8, 0x7D#8, 0x7E#8, 0x7F#8, 0x88#8, 0x89#8, 0x8A#8, 0x98#8, 0x9B#8, 0xA0#8, 0xA1#8, 0xA2#8, 0xA3#8,
   0xA4#8, 0xA5#8, 0xA6#8, 0xA7#8, 0xA8#8, 0xA9#8, 0xAA#8, 0xAB#8, 0xAC#8, 0xAD#8, 0xAE#8, 0xAF#8, 0xB1#8,
   0xB2#8] ++
  [0xB3#8, 0xB4#8, 0xB5#8, 0xB6#8, 0xB7#8, 0xB9#8, 0xBA#8, 0xBB#8, 0xBC#8, 0xBD#8, 0xBE#8, 0xBF#8, 0xC0#8,
   0xC1#8, 0xC2#8, 0xC3#8, 0xC4#8, 0xC5#8, 0xC6#8, 0xC7#8, 0xC8#8, 0xC9#8, 0xCA#8, 0xCC#8, 0xCD#8, 0xCE#8,
   0xCF#8, 0xD1#8, 0xD2#8, 0xD3#8, 0xD5#8, 0xD6#8, 0xD7#8, 0xD9#8, 0xDD#8, 0xDE#8, 0xDF#8, 0xE0#8, 0xE1#8,
   0xE2#8] ++
  [0xE3#8, 0xE4#8, 0xE5#8, 0xE6#8, 0xE7#8, 0xE8#8, 0xE9#8, 0xEB#8, 0xEC#8, 0xED#8, 0xEE#8, 0xEF#8, 0xF1#8,
   0xF2#8, 0xF3#8, 0xF5#8, 0xF6#8, 0xF7#8, 0xF9#8, 0xFA#8, 0xFD#8, 0xFE#8, 0xFF#8]

/-- The opcodes of the instructions that R38 lists as writers of C. -/
def writersC : List Byte :=
  [0x06#8, 0x0A#8, 0x0E#8, 0x16#8, 0x18#8, 0x1E#8, 0x26#8, 0x28#8, 0x2A#8, 0x2E#8, 0x36#8, 0x38#8, 0x3E#8,
   0x46#8, 0x4A#8, 0x4E#8, 0x56#8, 0x5E#8, 0x61#8, 0x63#8, 0x65#8, 0x66#8, 0x67#8, 0x69#8, 0x6A#8, 0x6D#8,
   0x6E#8, 0x6F#8, 0x71#8, 0x72#8, 0x73#8, 0x75#8, 0x76#8, 0x77#8, 0x79#8, 0x7D#8, 0x7E#8, 0x7F#8, 0xC0#8,
   0xC1#8] ++
  [0xC2#8, 0xC3#8, 0xC4#8, 0xC5#8, 0xC7#8, 0xC9#8, 0xCC#8, 0xCD#8, 0xCF#8, 0xD1#8, 0xD2#8, 0xD3#8, 0xD5#8,
   0xD7#8, 0xD9#8, 0xDD#8, 0xDF#8, 0xE0#8, 0xE1#8, 0xE2#8, 0xE3#8, 0xE4#8, 0xE5#8, 0xE7#8, 0xE9#8, 0xEC#8,
   0xED#8, 0xEF#8, 0xF1#8, 0xF2#8, 0xF3#8, 0xF5#8, 0xF7#8, 0xF9#8, 0xFB#8, 0xFD#8, 0xFF#8]

end Sys2Proof.Claims

open Sys2Proof Sys2Proof.Machine Sys2Proof.Claims

/-! ## Arithmetic, logic, loads and stores -/

/-- R290 to R292 (with R158, R159 for the cycles): every form of LDA, LDX and LDY, at either width. -/
def Obligations.Loads : Prop := ∀ (s : State) (b : Byte) (w : Word) (l : Addr),
  (∀ f ∈ ldaForms b w l, f.Reads s s.regs.fM loadA8 loadA16) ∧
  (∀ f ∈ ldxForms b w l, f.Reads s s.regs.fX loadX8 loadX16) ∧
  (∀ f ∈ ldyForms b w l, f.Reads s s.regs.fX loadY8 loadY16) ∧
  ReadsImm .ldaImm 0xA9#8 s s.regs.fM loadA8 loadA16 ∧
  ReadsImm .ldxImm 0xA2#8 s s.regs.fX loadX8 loadX16 ∧
  ReadsImm .ldyImm 0xA0#8 s s.regs.fX loadY8 loadY16

/-- R293 to R296: every form of STA, STX, STY and STZ, at either width. -/
def Obligations.Stores : Prop := ∀ (s : State) (b : Byte) (w : Word) (l : Addr),
  (∀ f ∈ staForms b w l, f.Stores s s.regs.fM s.regs.a) ∧
  (∀ f ∈ stxForms b w l, f.Stores s s.regs.fX s.regs.x) ∧
  (∀ f ∈ styForms b w l, f.Stores s s.regs.fX s.regs.y) ∧
  (∀ f ∈ stzForms b w l, f.Stores s s.regs.fM 0x0000#16)

/-- R231 and R232 with D_flag = 0: every form of ADC and SBC, at either width. -/
def Obligations.AddAndSubtract : Prop := ∀ (s : State) (b : Byte) (w : Word) (l : Addr), s.regs.fD = false →
  let adc8 (v : Byte) (r : Regs) := sum8 (addWithCarry (lo8 r.a) v r.fC) r
  let adc16 (v : Word) (r : Regs) := sum16 (addWithCarry r.a v r.fC) r
  let sbc8 (v : Byte) (r : Regs) := sum8 (addWithCarry (lo8 r.a) (~~~v) r.fC) r
  let sbc16 (v : Word) (r : Regs) := sum16 (addWithCarry r.a (~~~v) r.fC) r
  (∀ f ∈ adcForms b w l, f.Reads s s.regs.fM adc8 adc16) ∧
  (∀ f ∈ sbcForms b w l, f.Reads s s.regs.fM sbc8 sbc16) ∧
  ReadsImm .adcImm 0x69#8 s s.regs.fM adc8 adc16 ∧
  ReadsImm .sbcImm 0xE9#8 s s.regs.fM sbc8 sbc16

/-- The fault of ADC and SBC with D_flag = 1 (R452): every cycle is performed, the block halts with the fault in place
of the write-back, A and the flags keep their values, PC is past the instruction, and each later step answers the
fault. That `exec` answers the halted state in the same step, and that the step after it answers `.fault`, is the
model's choice (DESIGN CHOICE, log entry 7). -/
def Sys2Proof.Claims.HaltsDecimal (i : Instr) (op : Byte) (s : State) (n : Nat) (tr : List BusCycle) : Prop :=
  i.opcode = op ∧ (s.dispatches op = true →
    ∃ t, Sys2Proof.Machine.exec i s = .next t ∧
      t.cont = .halted (.decimalUnsupported op s.regs.pb s.regs.pc) ∧ t.regs = nextPc s n ∧ t.mem = s.mem ∧
      t.trace = tr ∧ (s.launched = true →
        Sys2Proof.Machine.step t = .fault (.decimalUnsupported op s.regs.pb s.regs.pc)))

/-- R452: all 30 opcodes of ADC and SBC with D_flag = 1. The halted state as the next state of the same step is the
model's choice (DESIGN CHOICE, log entry 7). -/
def Obligations.DecimalFault : Prop := ∀ (s : State) (b : Byte) (w : Word) (l : Addr), s.regs.fD = true →
  (∀ f ∈ adcForms b w l ++ sbcForms b w l,
    HaltsDecimal f.i f.op s (1 + f.code.length) (f.readTrace s s.regs.fM)) ∧
  (s.regs.fM = true → ∀ v : Byte,
    HaltsDecimal (.adcImm (.b8 v)) 0x69#8 s 2 (s.opcodeRow ++ s.operandRows 1) ∧
    HaltsDecimal (.sbcImm (.b8 v)) 0xE9#8 s 2 (s.opcodeRow ++ s.operandRows 1)) ∧
  (s.regs.fM = false → ∀ v : Word,
    HaltsDecimal (.adcImm (.b16 v)) 0x69#8 s 3 (s.opcodeRow ++ s.operandRows 2) ∧
    HaltsDecimal (.sbcImm (.b16 v)) 0xE9#8 s 3 (s.opcodeRow ++ s.operandRows 2))

/-- R233 to R235 with R123: every form of CMP, CPX and CPY; the register is not written, nor V. -/
def Obligations.Compares : Prop := ∀ (s : State) (b : Byte) (w : Word) (l : Addr),
  (∀ f ∈ cmpForms b w l, f.Reads s s.regs.fM (fun v r => compared (lo8 r.a) v r) (fun v r => compared r.a v r)) ∧
  (∀ f ∈ cpxForms b w l, f.Reads s s.regs.fX (fun v r => compared (lo8 r.x) v r) (fun v r => compared r.x v r)) ∧
  (∀ f ∈ cpyForms b w l, f.Reads s s.regs.fX (fun v r => compared (lo8 r.y) v r) (fun v r => compared r.y v r)) ∧
  ReadsImm .cmpImm 0xC9#8 s s.regs.fM (fun v r => compared (lo8 r.a) v r) (fun v r => compared r.a v r) ∧
  ReadsImm .cpxImm 0xE0#8 s s.regs.fX (fun v r => compared (lo8 r.x) v r) (fun v r => compared r.x v r) ∧
  ReadsImm .cpyImm 0xC0#8 s s.regs.fX (fun v r => compared (lo8 r.y) v r) (fun v r => compared r.y v r)

/-- R236 to R238: every form of AND, ORA and EOR. -/
def Obligations.Logic : Prop := ∀ (s : State) (b : Byte) (w : Word) (l : Addr),
  let and8 (v : Byte) (r : Regs) := loadA8 (lo8 r.a &&& v) r
  let and16 (v : Word) (r : Regs) := loadA16 (r.a &&& v) r
  let ora8 (v : Byte) (r : Regs) := loadA8 (lo8 r.a ||| v) r
  let ora16 (v : Word) (r : Regs) := loadA16 (r.a ||| v) r
  let eor8 (v : Byte) (r : Regs) := loadA8 (lo8 r.a ^^^ v) r
  let eor16 (v : Word) (r : Regs) := loadA16 (r.a ^^^ v) r
  (∀ f ∈ andForms b w l, f.Reads s s.regs.fM and8 and16) ∧
  (∀ f ∈ oraForms b w l, f.Reads s s.regs.fM ora8 ora16) ∧
  (∀ f ∈ eorForms b w l, f.Reads s s.regs.fM eor8 eor16) ∧
  ReadsImm .andImm 0x29#8 s s.regs.fM and8 and16 ∧
  ReadsImm .oraImm 0x09#8 s s.regs.fM ora8 ora16 ∧
  ReadsImm .eorImm 0x49#8 s s.regs.fM eor8 eor16

/-- R239: the memory forms of BIT write Z, N and V, BIT # writes Z only. -/
def Obligations.BitTest : Prop := ∀ (s : State) (b : Byte) (w : Word) (l : Addr),
  (∀ f ∈ bitForms b w l, f.Reads s s.regs.fM
    (fun v r => { r with fZ := (lo8 r.a &&& v) == 0#8, fN := v.getLsbD 7, fV := v.getLsbD 6 })
    (fun v r => { r with fZ := (r.a &&& v) == 0#16, fN := v.getLsbD 15, fV := v.getLsbD 14 })) ∧
  ReadsImm .bitImm 0x89#8 s s.regs.fM
    (fun v r => { r with fZ := (lo8 r.a &&& v) == 0#8 }) (fun v r => { r with fZ := (r.a &&& v) == 0#16 })

/-! ## Shifts, increments, decrements and test-bits -/

/-- R261 to R264: every form of ASL, LSR, ROL and ROR, on memory and on the accumulator. -/
def Obligations.ShiftsAndRotates : Prop := ∀ (s : State) (b : Byte) (w : Word) (l : Addr),
  (∀ f ∈ aslForms b w l, f.Modifies s asl asl) ∧ (∀ f ∈ lsrForms b w l, f.Modifies s lsr lsr) ∧
  (∀ f ∈ rolForms b w l, f.Modifies s rol rol) ∧ (∀ f ∈ rorForms b w l, f.Modifies s ror ror) ∧
  Implied .aslA 0x0A#8 s (onA asl asl) ∧ Implied .lsrA 0x4A#8 s (onA lsr lsr) ∧
  Implied .rolA 0x2A#8 s (onA rol rol) ∧ Implied .rorA 0x6A#8 s (onA ror ror)

/-- R265, R266: every form of INC and DEC, on memory and on the accumulator. -/
def Obligations.IncrementsAndDecrements : Prop := ∀ (s : State) (b : Byte) (w : Word) (l : Addr),
  (∀ f ∈ incForms b w l, f.Modifies s incr incr) ∧ (∀ f ∈ decForms b w l, f.Modifies s decr decr) ∧
  Implied .incA 0x1A#8 s (onA incr incr) ∧ Implied .decA 0x3A#8 s (onA decr decr)

/-- R271, R272: TSB and TRB write memory and Z only. -/
def Obligations.TestAndSetBits : Prop := ∀ (s : State) (b : Byte) (w : Word) (l : Addr),
  (∀ f ∈ tsbForms b w l, f.Modifies s (tsb (lo8 s.regs.a)) (tsb s.regs.a)) ∧
  (∀ f ∈ trbForms b w l, f.Modifies s (trb (lo8 s.regs.a)) (trb s.regs.a))

/-- R267 to R270: INX, INY, DEX and DEY wrap at the index width; at 8 bits the high byte is left. -/
def Obligations.IndexCounts : Prop := ∀ s : State,
  Implied .inx 0xE8#8 s (fun r => if r.fX then loadX8 (lo8 r.x + 1#8) r else loadX16 (r.x + 1#16) r) ∧
  Implied .iny 0xC8#8 s (fun r => if r.fX then loadY8 (lo8 r.y + 1#8) r else loadY16 (r.y + 1#16) r) ∧
  Implied .dex 0xCA#8 s (fun r => if r.fX then loadX8 (lo8 r.x - 1#8) r else loadX16 (r.x - 1#16) r) ∧
  Implied .dey 0x88#8 s (fun r => if r.fX then loadY8 (lo8 r.y - 1#8) r else loadY16 (r.y - 1#16) r)

/-! ## Transfers, stack and block moves -/

/-- R311 to R317: the transfers at the width of their destination. -/
def Obligations.Transfers : Prop := ∀ s : State,
  Implied .tax 0xAA#8 s (fun r => if r.fX then loadX8 (lo8 r.a) r else loadX16 r.a r) ∧
  Implied .tay 0xA8#8 s (fun r => if r.fX then loadY8 (lo8 r.a) r else loadY16 r.a r) ∧
  Implied .txa 0x8A#8 s (fun r => if r.fM then loadA8 (lo8 r.x) r else loadA16 r.x r) ∧
  Implied .tya 0x98#8 s (fun r => if r.fM then loadA8 (lo8 r.y) r else loadA16 r.y r) ∧
  Implied .txy 0x9B#8 s (fun r => if r.fX then loadY8 (lo8 r.x) r else loadY16 r.x r) ∧
  Implied .tyx 0xBB#8 s (fun r => if r.fX then loadX8 (lo8 r.y) r else loadX16 r.y r) ∧
  Implied .tsx 0xBA#8 s (fun r => if r.fX then loadX8 (lo8 r.s) r else loadX16 r.s r)

/-- R318 to R323: the 16-bit transfers whatever M is, S pinned in emulation mode, and XBA in three cycles. -/
def Obligations.WideTransfers : Prop := ∀ s : State,
  Implied .txs 0x9A#8 s (fun r => { r with s := if r.fE then word 0x01#8 (lo8 r.x) else r.x }) ∧
  Implied .tcs 0x1B#8 s (fun r => { r with s := if r.fE then word 0x01#8 (lo8 r.a) else r.a }) ∧
  Implied .tsc 0x3B#8 s (fun r => loadA16 r.s r) ∧
  Implied .tcd 0x5B#8 s (fun r => { r with d := r.a, fZ := r.a == 0#16, fN := r.a.msb }) ∧
  Implied .tdc 0x7B#8 s (fun r => loadA16 r.d r) ∧
  (Instr.xba.opcode = 0xEB#8 ∧ (s.dispatches 0xEB#8 = true →
    Completes .xba s { nextPc s 1 with a := word (lo8 s.regs.a) (hi8 s.regs.a), fZ := hi8 s.regs.a == 0#8,
                                       fN := (hi8 s.regs.a).msb }
      s.mem (s.opcodeRow ++ [.internal, .internal])))

/-- R325 to R331: every push; no push writes a flag. -/
def Obligations.Pushes : Prop := ∀ s : State,
  (s.regs.fM = true → Pushes8 .pha 0x48#8 s (lo8 s.regs.a)) ∧ (s.regs.fM = false → Pushes16 .pha 0x48#8 s s.regs.a) ∧
  (s.regs.fX = true → Pushes8 .phx 0xDA#8 s (lo8 s.regs.x)) ∧ (s.regs.fX = false → Pushes16 .phx 0xDA#8 s s.regs.x) ∧
  (s.regs.fX = true → Pushes8 .phy 0x5A#8 s (lo8 s.regs.y)) ∧ (s.regs.fX = false → Pushes16 .phy 0x5A#8 s s.regs.y) ∧
  Pushes8 .php 0x08#8 s s.regs.p ∧ Pushes8 .phb 0x8B#8 s s.regs.db ∧ Pushes8 .phk 0x4B#8 s s.regs.pb ∧
  Pushes16 .phd 0x0B#8 s s.regs.d

/-- R333 to R338: every pull. -/
def Obligations.Pulls : Prop := ∀ s : State,
  (s.regs.fM = true → Pulls8 .pla 0x68#8 s loadA8) ∧ (s.regs.fM = false → Pulls16 .pla 0x68#8 s loadA16) ∧
  (s.regs.fX = true → Pulls8 .plx 0xFA#8 s loadX8) ∧ (s.regs.fX = false → Pulls16 .plx 0xFA#8 s loadX16) ∧
  (s.regs.fX = true → Pulls8 .ply 0x7A#8 s loadY8) ∧ (s.regs.fX = false → Pulls16 .ply 0x7A#8 s loadY16) ∧
  Pulls8 .plp 0x28#8 s writeP ∧
  Pulls8 .plb 0xAB#8 s (fun v r => { r with db := v, fZ := v == 0#8, fN := v.msb }) ∧
  Pulls16 .pld 0x2B#8 s (fun v r => { r with d := v, fZ := v == 0#16, fN := v.msb })

/-- R339 to R341: PEA, PEI and PER. -/
def Obligations.PushEffective : Prop := ∀ (s : State) (b : Byte) (w : Word),
  ((Instr.pea w).opcode = 0xF4#8 ∧ (s.dispatches 0xF4#8 = true →
    Completes (.pea w) s (nextPc s 3).decS.decS (pushed16 s.mem s.regs w)
      (s.opcodeRow ++ s.operandRows 2 ++ pushRows16 s.regs w))) ∧
  ((Instr.pei b).opcode = 0xD4#8 ∧ (s.dispatches 0xD4#8 = true →
    let p := s.regs.d + zext b
    Completes (.pei b) s (nextPc s 2).decS.decS (pushed16 s.mem s.regs (s.readWord0 p))
      (s.opcodeRow ++ s.directRows ++ readRows 0x00#8 p 2 ++ pushRows16 s.regs (s.readWord0 p)))) ∧
  ((Instr.per w).opcode = 0x62#8 ∧ (s.dispatches 0x62#8 = true →
    let v := s.regs.pc + 3#16 + w
    Completes (.per w) s (nextPc s 3).decS.decS (pushed16 s.mem s.regs v)
      (s.opcodeRow ++ s.operandRows 2 ++ [.internal] ++ pushRows16 s.regs v)))

/-- One execution of a block move (R342), `move` the step of an index register. -/
def Sys2Proof.Claims.Moves (i : Byte → Byte → Instr) (op : Byte) (s : State) (dst src : Byte) (move : Word → Word)
    (move8 : Byte → Byte) : Prop :=
  (i dst src).opcode = op ∧ (s.dispatches op = true →
    let t := s.readMem (addr src s.regs.x)
    let at8 (v : Word) : Word := if s.regs.fX then word (hi8 v) (move8 (lo8 v)) else move v
    Completes (i dst src) s
      { s.regs with a := s.regs.a - 1#16, x := at8 s.regs.x, y := at8 s.regs.y, db := dst,
                    pc := if s.regs.a = 0x0000#16 then s.regs.pc + 3#16 else s.regs.pc }
      (s.mem.set (addr dst s.regs.y).toNat t)
      (s.opcodeRow ++ s.operandRows 2 ++ [.read (addr src s.regs.x), .write (addr dst s.regs.y) t, .internal,
        .internal]))

/-- R342 to R344: MVN and MVP move one byte, step X and Y at the index width and go back to the instruction until the
count has passed 0. -/
def Obligations.BlockMoves : Prop := ∀ (s : State) (dst src : Byte),
  Moves .mvn 0x54#8 s dst src (· + 1#16) (· + 1#8) ∧ Moves .mvp 0x44#8 s dst src (· - 1#16) (· - 1#8)

/-! ## Flags and mode -/

/-- R360 to R366 and R372: each single-flag instruction writes its flag only, and NOP nothing. -/
def Obligations.FlagInstructions : Prop := ∀ s : State,
  Implied .clc 0x18#8 s (fun r => { r with fC := false }) ∧ Implied .sec 0x38#8 s (fun r => { r with fC := true }) ∧
  Implied .cld 0xD8#8 s (fun r => { r with fD := false }) ∧ Implied .sed 0xF8#8 s (fun r => { r with fD := true }) ∧
  Implied .cli 0x58#8 s (fun r => { r with fI := false }) ∧ Implied .sei 0x78#8 s (fun r => { r with fI := true }) ∧
  Implied .clv 0xB8#8 s (fun r => { r with fV := false }) ∧ Implied .nop 0xEA#8 s (fun r => r)

/-- R367 to R369: REP and SEP write the status byte in their third cycle; in emulation mode M and X_flag stay. -/
def Obligations.StatusMasks : Prop := ∀ (s : State) (k : Byte),
  ((Instr.rep k).opcode = 0xC2#8 ∧ (s.dispatches 0xC2#8 = true →
    Completes (.rep k) s (writeP (s.regs.p &&& ~~~k) (nextPc s 2)) s.mem
      (s.opcodeRow ++ s.operandRows 1 ++ [.internal]))) ∧
  ((Instr.sep k).opcode = 0xE2#8 ∧ (s.dispatches 0xE2#8 = true →
    Completes (.sep k) s (writeP (s.regs.p ||| k) (nextPc s 2)) s.mem
      (s.opcodeRow ++ s.operandRows 1 ++ [.internal])))

/-- R370, R371: XCE exchanges C and E, and where E is then 1 forces the widths, XH, YH and SH. -/
def Obligations.ExchangeCarryEmulation : Prop := ∀ s : State,
  Implied .xce 0xFB#8 s (fun r =>
    if r.fC then { r with fC := r.fE, fE := true, fM := true, fX := true, x := word 0x00#8 (lo8 r.x),
                          y := word 0x00#8 (lo8 r.y), s := word 0x01#8 (lo8 r.s) }
    else { r with fC := r.fE, fE := false })

/-- R30: the status byte, and its bits 5 and 4 in emulation mode; in every reachable state (`r.Ok`) these are M and X_flag
in both modes, so that E is not in P. -/
def Obligations.StatusByte : Prop := ∀ r : Regs,
  r.p.getLsbD 7 = r.fN ∧ r.p.getLsbD 6 = r.fV ∧ r.p.getLsbD 3 = r.fD ∧ r.p.getLsbD 2 = r.fI ∧
  r.p.getLsbD 1 = r.fZ ∧ r.p.getLsbD 0 = r.fC ∧
  (r.fE = false → r.p.getLsbD 5 = r.fM ∧ r.p.getLsbD 4 = r.fX) ∧
  (r.fE = true → r.p.getLsbD 5 = true ∧ r.p.getLsbD 4 = true) ∧
  (r.Ok → r.p.getLsbD 5 = r.fM ∧ r.p.getLsbD 4 = r.fX)

/-! ## Control flow -/

/-- R390 to R399: the nine short branches. -/
def Obligations.ShortBranches : Prop := ∀ (s : State) (rel : Byte),
  Branches .bpl 0x10#8 s rel (!s.regs.fN) ∧ Branches .bmi 0x30#8 s rel s.regs.fN ∧
  Branches .bvc 0x50#8 s rel (!s.regs.fV) ∧ Branches .bvs 0x70#8 s rel s.regs.fV ∧
  Branches .bcc 0x90#8 s rel (!s.regs.fC) ∧ Branches .bcs 0xB0#8 s rel s.regs.fC ∧
  Branches .bne 0xD0#8 s rel (!s.regs.fZ) ∧ Branches .beq 0xF0#8 s rel s.regs.fZ ∧
  Branches .bra 0x80#8 s rel true

/-- A jump (R400 to R405): only PB and PC change. -/
def Sys2Proof.Claims.Jumps (i : Instr) (op : Byte) (s : State) (pb : Byte) (pc : Word) (rows : List BusCycle) : Prop :=
  i.opcode = op ∧ (s.dispatches op = true →
    Completes i s { s.regs with pb := pb, pc := pc } s.mem (s.opcodeRow ++ rows))

/-- R400 to R405: BRL and the five jumps, with the bank of each pointer. -/
def Obligations.LongBranchAndJumps : Prop := ∀ (s : State) (w : Word) (l : Addr),
  let wordAt (bank : Byte) (p : Word) := word (s.readMem (addr bank (p + 1#16))) (s.readMem (addr bank p))
  Jumps (.brl w) 0x82#8 s s.regs.pb (s.regs.pc + 3#16 + w) (s.operandRows 2 ++ [.internal]) ∧
  Jumps (.jmpAbs w) 0x4C#8 s s.regs.pb w (s.operandRows 2) ∧
  Jumps (.jmlLong l) 0x5C#8 s (bankOf l) (offsetOf l) (s.operandRows 3) ∧
  Jumps (.jmpInd w) 0x6C#8 s s.regs.pb (wordAt 0x00#8 w) (s.operandRows 2 ++ readRows 0x00#8 w 2) ∧
  Jumps (.jmpXInd w) 0x7C#8 s s.regs.pb (wordAt s.regs.pb (w + s.regs.x))
    (s.operandRows 2 ++ [.internal] ++ readRows s.regs.pb (w + s.regs.x) 2) ∧
  Jumps (.jmlIndLong w) 0xDC#8 s (s.readMem (addr 0x00#8 (w + 2#16))) (wordAt 0x00#8 w)
    (s.operandRows 2 ++ readRows 0x00#8 w 3)

/-- R406 to R408: the calls. In JSR (a,X) and JSL the last operand byte is read after a push, so it is the pushed byte
where the push went to that address (R503). -/
def Obligations.Calls : Prop := ∀ (s : State) (w : Word) (l : Addr),
  ((Instr.jsrAbs w).opcode = 0x20#8 ∧ (s.dispatches 0x20#8 = true →
    let ret := s.regs.pc + 2#16
    Completes (.jsrAbs w) s { s.regs.decS.decS with pc := w } (pushed16 s.mem s.regs ret)
      (s.opcodeRow ++ s.operandRows 2 ++ [.internal] ++ pushRows16 s.regs ret))) ∧
  ((Instr.jsrXInd w).opcode = 0xFC#8 ∧ (s.dispatches 0xFC#8 = true →
    let ret := s.regs.pc + 2#16
    let m := pushed16 s.mem s.regs ret
    let at2 := addr s.regs.pb (s.regs.pc + 2#16)
    let aah := if addr 0x00#8 s.regs.s = at2 ∨ addr 0x00#8 s.regs.decS.s = at2 then m.get at2.toNat else hi8 w
    let p := word aah (lo8 w) + s.regs.x
    Completes (.jsrXInd w) s
      { s.regs.decS.decS with pc := word (m.get (addr s.regs.pb (p + 1#16)).toNat) (m.get (addr s.regs.pb p).toNat) } m
      (s.opcodeRow ++ s.operandRows 1 ++ pushRows16 s.regs ret ++ [s.operandRow 2, .internal] ++
        readRows s.regs.pb p 2))) ∧
  ((Instr.jsl l).opcode = 0x22#8 ∧ (s.dispatches 0x22#8 = true →
    let ret := s.regs.pc + 3#16
    let m := s.mem.set (addr 0x00#8 s.regs.s).toNat s.regs.pb
    let at3 := addr s.regs.pb (s.regs.pc + 3#16)
    let bank := if addr 0x00#8 s.regs.s = at3 then m.get at3.toNat else bankOf l
    Completes (.jsl l) s { s.regs.decS.decS.decS with pb := bank, pc := offsetOf l } (pushed16 m s.regs.decS ret)
      (s.opcodeRow ++ s.operandRows 2 ++ [.write (addr 0x00#8 s.regs.s) s.regs.pb, .internal, s.operandRow 3] ++
        pushRows16 s.regs.decS ret)))

/-- R409, R410: the returns. -/
def Obligations.Returns : Prop := ∀ s : State,
  let pc := word (pulled s s.regs.incS) (pulled s s.regs) + 1#16
  let rows : List BusCycle := [.internal, .internal, .read (addr 0x00#8 s.regs.incS.s),
    .read (addr 0x00#8 s.regs.incS.incS.s)]
  (Instr.rts.opcode = 0x60#8 ∧ (s.dispatches 0x60#8 = true →
    Completes .rts s { s.regs.incS.incS with pc := pc } s.mem (s.opcodeRow ++ rows ++ [.internal]))) ∧
  (Instr.rtl.opcode = 0x6B#8 ∧ (s.dispatches 0x6B#8 = true →
    Completes .rtl s { s.regs.incS.incS.incS with pb := pulled s s.regs.incS.incS, pc := pc } s.mem
      (s.opcodeRow ++ rows ++ [.read (addr 0x00#8 s.regs.incS.incS.incS.s)])))

/-- R411: a call and the return after it give the PC after the call and the stack pointer before it, and with JSL and RTL
the program bank; `s.regs.Ok` is the invariant of every reachable state (SH pinned in emulation mode, R28). -/
def Obligations.CallReturnRoundTrip : Prop := ∀ (s t u : State) (w : Word) (l : Addr), s.regs.Ok → s.mem.wf = true →
  (s.dispatches 0x60#8 = true → s.dispatches 0x20#8 = true → Sys2Proof.Machine.exec (.jsrAbs w) s = .next t →
    Sys2Proof.Machine.exec .rts t = .next u →
    u.regs.pc = s.regs.pc + 3#16 ∧ u.regs.pb = s.regs.pb ∧ u.regs.s = s.regs.s) ∧
  (s.dispatches 0x60#8 = true → s.dispatches 0xFC#8 = true → Sys2Proof.Machine.exec (.jsrXInd w) s = .next t →
    Sys2Proof.Machine.exec .rts t = .next u →
    u.regs.pc = s.regs.pc + 3#16 ∧ u.regs.pb = s.regs.pb ∧ u.regs.s = s.regs.s) ∧
  (s.dispatches 0x6B#8 = true → s.dispatches 0x22#8 = true → Sys2Proof.Machine.exec (.jsl l) s = .next t →
    Sys2Proof.Machine.exec .rtl t = .next u →
    u.regs.pc = s.regs.pc + 4#16 ∧ u.regs.pb = s.regs.pb ∧ u.regs.s = s.regs.s)

/-! ## Opcodes without an entry -/

/-- R430 to R436: BRK, COP, RTI, WDM, WAI and STP halt the block after their opcode fetch, whatever `IMPL_SET` is. That
`exec` answers the halted state as a next state is the model's choice (DESIGN CHOICE, log entry 7). -/
def Obligations.ExcludedOpcodes : Prop := ∀ (s : State) (sig : Byte),
  (∀ i ∈ [Instr.brk sig, .cop sig, .rti, .wdm sig, .wai, .stp], Rejects i s) ∧
  (Instr.brk sig).opcode = 0x00#8 ∧ (Instr.cop sig).opcode = 0x02#8 ∧ Instr.rti.opcode = 0x40#8 ∧
  (Instr.wdm sig).opcode = 0x42#8 ∧ Instr.wai.opcode = 0xCB#8 ∧ Instr.stp.opcode = 0xDB#8

/-- R451, R99: every instruction whose opcode is outside `IMPL_SET` halts the block after its opcode fetch. That `exec`
answers the halted state as a next state is the model's choice (DESIGN CHOICE, log entry 7). -/
def Obligations.UnimplementedOpcodes : Prop := ∀ (s : State) (i : Instr),
  s.implSet.getLsbD i.opcode.toNat = false ∨ i.opcode ∈ Config.excludedOpcodes → Rejects i s

/-! ## Rules of the whole machine -/

/-- The Writes of a trace performed on a memory, in order. -/
def Sys2Proof.Claims.applyWrites : List BusCycle → Memory → Memory
  | [], m => m
  | .read _ :: tr, m => applyWrites tr m
  | .write a v :: tr, m => applyWrites tr (m.set a.toNat v)
  | .internal :: tr, m => applyWrites tr m

/-- R14, R61, R77: an instruction changes memory by the Writes of its bus trace and in no other way. That the host is
plain memory is the model's choice (log entry 13). -/
def Obligations.MemoryIsTheTrace : Prop := ∀ (i : Instr) (s t : State), Sys2Proof.Machine.exec i s = .next t →
  t.mem = applyWrites t.trace s.mem

/-- The frame of memory (R153, R158): a store or a read-modify-write instruction leaves every byte but the one at EA,
and at 16 bits the one at EAhi; an instruction of the read class leaves every byte. -/
def Obligations.MemoryFrame : Prop := ∀ (s t : State) (b : Byte) (w : Word) (l : Addr),
  (∀ f ∈ staForms b w l ++ stzForms b w l ++ aslForms b w l ++ lsrForms b w l ++ rolForms b w l ++ rorForms b w l ++
      incForms b w l ++ decForms b w l ++ tsbForms b w l ++ trbForms b w l,
    Sys2Proof.Machine.exec f.i s = .next t → ∀ a : Addr, a ≠ (f.ea s).lo → (s.regs.fM = false → a ≠ (f.ea s).hi) →
      t.readMem a = s.readMem a) ∧
  (∀ f ∈ stxForms b w l ++ styForms b w l,
    Sys2Proof.Machine.exec f.i s = .next t → ∀ a : Addr, a ≠ (f.ea s).lo → (s.regs.fX = false → a ≠ (f.ea s).hi) →
      t.readMem a = s.readMem a) ∧
  (∀ f ∈ ldaForms b w l ++ ldxForms b w l ++ ldyForms b w l ++ adcForms b w l ++ sbcForms b w l ++ cmpForms b w l ++
      cpxForms b w l ++ cpyForms b w l ++ andForms b w l ++ oraForms b w l ++ eorForms b w l ++ bitForms b w l,
    Sys2Proof.Machine.exec f.i s = .next t → ∀ a : Addr, t.readMem a = s.readMem a)

/-- R34: E is written only by XCE, and forces M and X_flag, which no other instruction changes while E = 1. -/
def Obligations.EmulationForcesWidths : Prop := ∀ (i : Instr) (s t : State), Sys2Proof.Machine.exec i s = .next t →
  (i ≠ .xce → t.regs.fE = s.regs.fE) ∧
  (s.regs.Ok → t.regs.fE = true → t.regs.fM = true ∧ t.regs.fX = true) ∧
  (i ≠ .xce → s.regs.fE = true → t.regs.fM = s.regs.fM ∧ t.regs.fX = s.regs.fX)

/-- R24 to R26: the only writers of DB, D and PB. -/
def Obligations.BankAndDirectWriters : Prop := ∀ (i : Instr) (s t : State), Sys2Proof.Machine.exec i s = .next t →
  (i.opcode ∉ [0xAB#8, 0x54#8, 0x44#8] → t.regs.db = s.regs.db) ∧
  (i.opcode ∉ [0x5B#8, 0x2B#8] → t.regs.d = s.regs.d) ∧
  (i.opcode ∉ [0x5C#8, 0xDC#8, 0x22#8, 0x6B#8] → t.regs.pb = s.regs.pb)

/-- R38: an instruction that the table of flag writers does not list for a flag leaves that flag. -/
def Obligations.FlagWriters : Prop := ∀ (i : Instr) (s t : State), Sys2Proof.Machine.exec i s = .next t →
  (i.opcode ∉ writersN → t.regs.fN = s.regs.fN) ∧ (i.opcode ∉ writersV → t.regs.fV = s.regs.fV) ∧
  (i.opcode ∉ writersM → t.regs.fM = s.regs.fM) ∧ (i.opcode ∉ writersM → t.regs.fX = s.regs.fX) ∧
  (i.opcode ∉ writersD → t.regs.fD = s.regs.fD) ∧ (i.opcode ∉ writersI → t.regs.fI = s.regs.fI) ∧
  (i.opcode ∉ writersZ → t.regs.fZ = s.regs.fZ) ∧ (i.opcode ∉ writersC → t.regs.fC = s.regs.fC) ∧
  (i.opcode ∉ [0xFB#8] → t.regs.fE = s.regs.fE)

/-- The opcodes of ADC and SBC. -/
def Sys2Proof.Claims.adcSbcOpcodes : List Byte :=
  [0x61#8, 0x63#8, 0x65#8, 0x67#8, 0x69#8, 0x6D#8, 0x6F#8, 0x71#8, 0x72#8, 0x73#8, 0x75#8, 0x77#8, 0x79#8, 0x7D#8,
   0x7F#8, 0xE1#8, 0xE3#8, 0xE5#8, 0xE7#8, 0xE9#8, 0xED#8, 0xEF#8, 0xF1#8, 0xF2#8, 0xF3#8, 0xF5#8, 0xF7#8, 0xF9#8,
   0xFD#8, 0xFF#8]

/-- R450, R452, R456: every instruction ends at a boundary with nothing pending or in one of the two faults, each of
which arises only from its cause; a faulting instruction writes no memory. That a fault, the one of a write-back among
them, is the next state of the same step is the model's choice (DESIGN CHOICE, log entry 7). -/
def Obligations.OnlyTwoFaults : Prop := ∀ (i : Instr) (s t : State), Sys2Proof.Machine.exec i s = .next t →
  (t.cont = .fetch ∧ t.wb = none ∧ s.dispatches i.opcode = true) ∨
  (t.cont = .halted (.unimplementedOpcode i.opcode s.regs.pb s.regs.pc) ∧ s.dispatches i.opcode = false ∧
    t.mem = s.mem) ∨
  (t.cont = .halted (.decimalUnsupported i.opcode s.regs.pb s.regs.pc) ∧ s.dispatches i.opcode = true ∧
    i.opcode ∈ adcSbcOpcodes ∧ s.regs.fD = true ∧ t.mem = s.mem)

/-! ## The engine -/

/-- R97, R212: from a committed boundary a step is the meaning of the instruction that the bytes at PB:PC decode to under
the width flags in force; a pending write-back is applied first (R202), and its fault takes the place of the step: that the
step then answers the halted state as a next state is the model's choice (DESIGN CHOICE, log entry 7). -/
def Obligations.StepRunsDecoded : Prop := ∀ s : State,
  (∀ i rest, s.AtBoundary → decode s.regs.fM s.regs.fX [s.codeByte 0, s.codeByte 1, s.codeByte 2, s.codeByte 3] =
      .ok (i, rest) → Sys2Proof.Machine.step s = Sys2Proof.Machine.exec i s) ∧
  (∀ c, s.launched = true → s.cont = .fetch → s.commit = .ok c →
    Sys2Proof.Machine.step s = Sys2Proof.Machine.step c) ∧
  (∀ f, s.launched = true → s.cont = .fetch → s.commit = .error f →
    Sys2Proof.Machine.step s = .next (s.raise f))

/-- A well-formed instruction whose bytes are placed at PB:PC is what the next step runs. -/
def Obligations.PlacedInstructionRuns : Prop := ∀ (s : State) (i : Instr), s.AtBoundary → s.mem.wf = true →
  i.wellFormed s.regs.fM s.regs.fX = true →
  Sys2Proof.Machine.step (s.placeCode (encode i)) = Sys2Proof.Machine.exec i (s.placeCode (encode i))

/-- R212: a step from a committed boundary is as many calls of `advance()` as its trace has bus cycles, the host
answering each from its memory, then `commit`; where the instruction faults, one more call gives the halted state. That
the host is plain memory (log entry 13) and that a fault, the one of a write-back among them, belongs to the same step
(log entry 7) are the model's choices. -/
def Obligations.StepIsTicks : Prop := ∀ s : State, s.AtBoundary → ∃ t, Sys2Proof.Machine.step s = .next t ∧
  ((t.cont = .fetch ∧ (s.ticks t.trace.length).commit = .ok t) ∨
   ∃ f, t.cont = .halted f ∧ (s.ticks t.trace.length).advance = (.fault f, t))

/-- R213: a block that was paused after at least one and fewer than all of the calls of an instruction goes on to the same
state. That a step from the middle of an instruction is the rest of it is the model's choice (log entry 14). -/
def Obligations.PausedStepIsTheStep : Prop := ∀ (s t : State) (k : Nat), s.AtBoundary →
  Sys2Proof.Machine.step s = .next t → 0 < k → k < t.trace.length →
  Sys2Proof.Machine.step (s.ticks k) = .next t

/-- R202, R452: the opcode fetch applies the pending write-back, then reads at PB:PC and increments PC; the fault of a
write-back takes its place, with no bus cycle. -/
def Obligations.OpcodeFetch : Prop := ∀ s : State, s.launched = true → s.cont = .fetch →
  (∀ c, s.commit = .ok c → s.advance.1 = .read ∧
    s.advance.2.regs = { c.regs with pc := c.regs.pc + 1#16 } ∧ s.advance.2.abus = addr c.regs.pb c.regs.pc ∧
    s.advance.2.cont = .decode ∧ s.advance.2.last = .read ∧ s.advance.2.lat.pc0 = c.regs.pc ∧
    s.advance.2.wb = none ∧ s.advance.2.mem = s.mem) ∧
  (∀ f, s.commit = .error f → s.advance.1 = .fault f ∧ s.advance.2 = { s with cont := .halted f })

/-- R203, R451: the decode step of an opcode that is not dispatched halts with `UnimplementedOpcode`, with no bus cycle
and no register change. -/
def Obligations.DecodeFault : Prop := ∀ s : State, s.launched = true → s.cont = .decode →
  s.dispatches s.dbus = false →
  s.advance.1 = .fault (.unimplementedOpcode s.dbus s.regs.pb s.lat.pc0) ∧
  s.advance.2.cont = .halted (.unimplementedOpcode s.dbus s.regs.pb s.lat.pc0) ∧
  s.advance.2.regs = s.regs ∧ s.advance.2.mem = s.mem ∧ s.advance.2.abus = s.abus ∧
  s.advance.2.trace = s.trace ∧ s.advance.2.moment = s.moment

/-- R207, R457, R458: a halted block answers the same fault to every later call and changes nothing, and reset leaves the
halted state. That `step` answers `.fault` there is the model's choice (DESIGN CHOICE, log entry 7). -/
def Obligations.HaltedStays : Prop := ∀ (s : State) (f : Fault) (n : Nat), s.cont = .halted f →
  (s.launched = true → s.advance = (.fault f, s) ∧ Sys2Proof.Machine.step s = .fault f) ∧ s.ticks n = s ∧
  ∀ v dr bd, (s.resetTo v dr bd).cont = .fetch

/-- R215: a call that does not fault performs exactly one bus cycle, of the kind it returns; a call that faults performs
none, nor does one that is refused because the block was never reset (log entry 11). -/
def Obligations.OneCyclePerCall : Prop := ∀ s : State,
  (s.launched = false ∧ s.advance = (.refused .advanceBeforeReset, s)) ∨
  (∃ f, s.advance.1 = .fault f ∧ s.advance.2.cont = .halted f ∧ s.advance.2.moment = s.moment ∧
    s.advance.2.abus = s.abus ∧ s.advance.2.mem = s.mem) ∨
  (s.advance.2.moment = s.moment + 1 ∧ s.advance.2.mem = s.mem ∧ ∃ before,
    (s.advance.1 = .read ∧ s.advance.2.last = .read ∧ s.advance.2.trace = before ++ [.read s.advance.2.abus]) ∨
    (s.advance.1 = .write ∧ s.advance.2.last = .write ∧
      s.advance.2.trace = before ++ [.write s.advance.2.abus s.advance.2.dbus]) ∨
    (s.advance.1 = .internal ∧ s.advance.2.last = .internal ∧ s.advance.2.trace = before ++ [.internal] ∧
      s.advance.2.abus = Config.idleAddr s.moment))

/-- R205, R211, R501: with a write-back pending the snapshot shows the registers before it, and after the next call, the
opcode fetch, the registers after it with PC past the opcode. Between two calls of an instruction whose write-back writes
PC or PB (the jumps, JSR (a,X) and RTL) these show no new value: PB is as it was, and PC as stored, with the increments of
the instruction-stream Reads (R204; log entry 6). -/
def Obligations.WriteBackLatency : Prop := ∀ s : State,
  (∀ c, s.launched = true → s.cont = .fetch → s.commit = .ok c →
    s.registers = s.regs ∧ s.advance.2.registers = { c.regs with pc := c.regs.pc + 1#16 } ∧
    (s.wb = none → c = s)) ∧
  ∀ op k, s.cont = .step op k →
    (op ∈ [0x4C#8, 0x5C#8, 0x6C#8, 0x7C#8, 0xDC#8, 0xFC#8, 0x6B#8] → s.registers.pc = s.regs.pc) ∧
    (op ∈ [0x5C#8, 0xDC#8, 0x6B#8] → s.registers.pb = s.lat.base.pb)

/-! ## Invariants -/

/-- R22, R28, R34: the invariant of every reachable state holds after any reset. -/
def Obligations.InvariantAtReset : Prop := State.reset.Inv ∧
  ∀ (s : State) (v : Word) (dr : ResetDraw) (bd : BusDraw), s.mem.wf = true → (s.resetTo v dr bd).Inv

/-- R22, R28, R34: every step keeps the invariant. -/
def Obligations.InvariantStep : Prop := ∀ s t : State, s.Inv → Sys2Proof.Machine.step s = .next t → t.Inv

/-- R22, R28, R34: every single call of `advance()` keeps the invariant, whatever byte the host then puts in the slot,
and so does the host's own answer. -/
def Obligations.InvariantAdvance : Prop := ∀ (s : State) (b : Byte), s.Inv →
  s.advance.2.Inv ∧ (s.advance.2.supply b).Inv ∧ s.tick.Inv

/-! ## Reset and the end of a run -/

/-- R490, R491, R493: reset sets the whole state from its arguments, whatever the state was, and leaves memory. -/
def Obligations.ResetState : Prop := ∀ (s : State) (v : Word) (dr : ResetDraw) (bd : BusDraw),
  let r := s.resetTo v dr bd
  r.regs.pb = 0x00#8 ∧ r.regs.db = 0x00#8 ∧ r.regs.d = 0x0000#16 ∧ r.regs.s = 0x01FF#16 ∧ r.regs.fE = true ∧
  r.regs.fM = true ∧ r.regs.fX = true ∧ r.regs.fD = false ∧ r.regs.fI = true ∧ hi8 r.regs.x = 0x00#8 ∧
  hi8 r.regs.y = 0x00#8 ∧ r.regs.a = dr.a ∧ lo8 r.regs.x = dr.xl ∧ lo8 r.regs.y = dr.yl ∧ r.regs.fN = dr.fN ∧
  r.regs.fV = dr.fV ∧ r.regs.fZ = dr.fZ ∧ r.regs.fC = dr.fC ∧ r.regs.pc = v ∧ r.cont = .fetch ∧ r.wb = none ∧
  r.last = .internal ∧ r.mem = s.mem ∧ r.implSet = s.implSet ∧ r.launched = true

/-- R495: the first call after `reset(v)` is the opcode fetch at 0x00:v. -/
def Obligations.FirstInstruction : Prop := ∀ (s : State) (v : Word) (dr : ResetDraw) (bd : BusDraw),
  let a := (s.resetTo v dr bd).advance
  a.1 = .read ∧ a.2.currentAddress = (0x00#8, v) ∧ a.2.regs = { Regs.resetTo v dr with pc := v + 1#16 } ∧
  a.2.cont = .decode ∧ a.2.wb = none

/-- R494: a block that was never reset is refused by `step` and by every call of `advance()`, which change nothing; at
power-on, whatever the block holds, it is such a block, with the opcode fetch as its continuation, and a launch does not
depend on what it held. The refusal is the model's choice (log entry 11: the host behaviour is assumed never to
happen). -/
def Obligations.NoStepBeforeReset : Prop := ∀ (s u : State) (n : Nat) (v : Word) (m0 : Memory) (set : BitVec 256)
    (dr : ResetDraw) (bd : BusDraw),
  (s.launched = false → Sys2Proof.Machine.step s = .refused .advanceBeforeReset ∧
    s.advance = (.refused .advanceBeforeReset, s) ∧ s.ticks n = s) ∧
  (State.powerOn u m0 set).launched = false ∧ (State.powerOn u m0 set).cont = .fetch ∧
  (State.powerOn u m0 set).resetTo v dr bd = launch v m0 set dr bd

/-- R507: a run ends only at a committed boundary at END_ADDR, and a fault is never an end; a run that stands at a
boundary there has ended at once, whatever byte is there. A block that was never reset has no run: that it stops with the
refusal, and what a run from a state that no launch leads to answers, is the model's choice (DESIGN CHOICE, log entry
21). -/
def Obligations.RunEnds : Prop := ∀ (e : Addr) (n : Nat) (s t : State),
  (runTo e n s = .ended t → addr t.regs.pb t.regs.pc = e ∧ t.cont = .fetch ∧ t.wb = none ∧ s.launched = true) ∧
  (∀ f, runTo e n s = .faulted f t → t.cont = .halted f ∧ s.launched = true) ∧
  (s.launched = true → s.cont = .fetch → s.commit = .ok t → addr t.regs.pb t.regs.pc = e →
    runTo e n s = .ended t) ∧
  (s.launched = false → runTo e n s = .stopped .advanceBeforeReset)

/-- R9, R10, R436: the six excluded opcodes are dispatched under no `IMPL_SET`; under the default every other opcode is,
and `IMPL_SET_SRC` is a part of it. -/
def Obligations.ImplementedOpcodes : Prop := ∀ (s : State) (op : Byte),
  (op ∈ [0x00#8, 0x02#8, 0x40#8, 0x42#8, 0xCB#8, 0xDB#8] → s.dispatches op = false ∧ (progOf op).isNone = true) ∧
  (op ∉ [0x00#8, 0x02#8, 0x40#8, 0x42#8, 0xCB#8, 0xDB#8] → (progOf op).isSome = true ∧
    (s.implSet = Config.implSetAll → s.dispatches op = true)) ∧
  (Config.implSetSrc.getLsbD op.toNat = true → Config.implSetAll.getLsbD op.toNat = true)

/-! ## Encoding -/

/-- R90 to R97: decoding the bytes of a well-formed instruction, whatever follows them, gives it back, and the rest. -/
def Obligations.DecodeEncode : Prop := ∀ (m8 x8 : Bool) (i : Instr) (rest : List Byte), i.wellFormed m8 x8 = true →
  decode m8 x8 (encode i ++ rest) = .ok (i, rest)

/-- R100: whatever is decoded is a well-formed instruction whose bytes are the ones that were read, and four bytes always
decode: no operand byte is invalid. -/
def Obligations.EncodeDecode : Prop := ∀ (m8 x8 : Bool) (bytes : List Byte),
  (∀ i rest, decode m8 x8 bytes = .ok (i, rest) → i.wellFormed m8 x8 = true ∧ encode i ++ rest = bytes) ∧
  (4 ≤ bytes.length → ∃ i rest, decode m8 x8 bytes = .ok (i, rest))

/-- R97, R98: the length of an instruction follows from its opcode, and for OP_IM and OP_IX from M or X_flag: 2 bytes when
the flag is 1, 3 when it is 0. -/
def Obligations.Lengths : Prop := ∀ (m8 x8 : Bool) (i : Instr), i.wellFormed m8 x8 = true →
  (encode i).length =
    if i.opcode ∈ [0x09#8, 0x29#8, 0x49#8, 0x69#8, 0x89#8, 0xA9#8, 0xC9#8, 0xE9#8] then (if m8 then 2 else 3)
    else if i.opcode ∈ [0xA0#8, 0xA2#8, 0xC0#8, 0xE0#8] then (if x8 then 2 else 3)
    else 1 + (formatOf i.opcode).operands true true

/-- R101 and R91 to R96 on words written out from the encoding tables: one instruction of each family and of each of the
seven formats. That `decodeTableWord` reads an immediate at M = X_flag = 1 is the model's choice (DESIGN CHOICE, log
entry 12). -/
def Obligations.EncodingSamples : Prop :=
  decodeTableWord 24 0x12346D = some (.adcAbs 0x1234#16) ∧
  decodeTableWord 16 0x34A9 = some (.ldaImm (.b8 0x34#8)) ∧
  decode false true [0xA9#8, 0x34#8, 0x12#8, 0xEA#8] = .ok (.ldaImm (.b16 0x1234#16), [0xEA#8]) ∧
  decodeTableWord 16 0x34A2 = some (.ldxImm (.b8 0x34#8)) ∧
  decode true false [0xE0#8, 0x34#8, 0x12#8, 0xEA#8] = .ok (.cpxImm (.b16 0x1234#16), [0xEA#8]) ∧
  decodeTableWord 16 0x1004 = some (.tsbDp 0x10#8) ∧
  decodeTableWord 8 0x0A = some .aslA ∧
  decodeTableWord 32 0x123456BF = some (.ldaLongX 0x123456#24) ∧
  decodeTableWord 24 0x7E7F54 = some (.mvn 0x7F#8 0x7E#8) ∧
  decodeTableWord 8 0xFB = some .xce ∧
  decodeTableWord 24 0xFFFD82 = some (.brl 0xFFFD#16) ∧
  decodeTableWord 32 0x02800022 = some (.jsl 0x028000#24) ∧
  decodeTableWord 16 0x2A00 = some (.brk 0x2A#8)

/-! ## The arithmetic and the resolver -/

/-- R121: at 8 and 16 bits the sum, the carry as the sum exceeding the width, and V as the signed sum leaving the signed
range. -/
def Obligations.AddMeaning : Prop := ∀ (n : Nat), n = 8 ∨ n = 16 → ∀ (a b : BitVec n) (cin : Bool),
  (addWithCarry a b cin).res.toNat = (a.toNat + b.toNat + cin.toNat) % 2 ^ n ∧
  ((addWithCarry a b cin).c = true ↔ 2 ^ n ≤ a.toNat + b.toNat + cin.toNat) ∧
  ((addWithCarry a b cin).v = true ↔
    (addWithCarry a b cin).res.toInt ≠ a.toInt + b.toInt + (if cin then 1 else 0))

/-- R122: the difference with borrow; C = 1 exactly when no borrow occurred; V is the signed overflow of the
subtraction. -/
def Obligations.SubtractMeaning : Prop := ∀ (n : Nat), n = 8 ∨ n = 16 → ∀ (a b : BitVec n) (cin : Bool),
  (subWithBorrow a b cin).res = a - b - (if cin then 0#n else 1#n) ∧
  ((subWithBorrow a b cin).c = true ↔ b.toNat < a.toNat + cin.toNat) ∧
  ((subWithBorrow a b cin).v = true ↔
    (subWithBorrow a b cin).res.toInt ≠ a.toInt - b.toInt - (if cin then 0 else 1))

/-- R126 to R129 in numbers: the shifts double and halve, and the rotations are through the carry in n + 1 bits, each
undoing the other. -/
def Obligations.ShiftMeaning : Prop := ∀ (n : Nat), n = 8 ∨ n = 16 → ∀ (v : BitVec n) (cin : Bool),
  ((shl v).res.toNat + (shl v).c.toNat * 2 ^ n = 2 * v.toNat) ∧
  (2 * (shr v).res.toNat + (shr v).c.toNat = v.toNat) ∧
  ((Machine.rol v cin).res.toNat + (Machine.rol v cin).c.toNat * 2 ^ n = 2 * v.toNat + cin.toNat) ∧
  (2 * (Machine.ror v cin).res.toNat + (Machine.ror v cin).c.toNat = v.toNat + cin.toNat * 2 ^ n) ∧
  Machine.ror (Machine.rol v cin).res (Machine.rol v cin).c = { res := v, c := cin } ∧
  Machine.rol (Machine.ror v cin).res (Machine.ror v cin).c = { res := v, c := cin }

/-- R71, R28: the stack pointer steps modulo 2^16, and in emulation mode within page 1. -/
def Obligations.StackPointerSteps : Prop := ∀ r : Regs,
  (r.fE = false → r.decS = { r with s := r.s - 1#16 } ∧ r.incS = { r with s := r.s + 1#16 }) ∧
  (r.fE = true → r.decS = { r with s := word 0x01#8 (lo8 r.s - 1#8) } ∧
    r.incS = { r with s := word 0x01#8 (lo8 r.s + 1#8) })

/-- R150 and R153: EA and EAhi of each of the 15 modes, in numbers: the bank in bits 23:16, the offset wrapping within its
bank, and the long modes carrying into the next bank. -/
def Obligations.EffectiveAddresses : Prop := ∀ (s : State) (code : List Byte),
  let off := zext (code.getD 0 0x00#8)
  let aa := word (code.getD 1 0x00#8) (code.getD 0 0x00#8)
  let bank0 (o : Word) : Nat × Nat := (o.toNat, (o + 1#16).toNat)
  let inDb (o : Word) : Nat × Nat := (s.regs.db.toNat * 65536 + o.toNat, s.regs.db.toNat * 65536 + (o + 1#16).toNat)
  let long (a : Nat) : Nat × Nat := (a % 16777216, (a + 1) % 16777216)
  let at' (p : Word) : Word := word (s.readMem (addr 0x00#8 (p + 1#16))) (s.readMem (addr 0x00#8 p))
  let ea (m : Mode) : Nat × Nat := ((s.effAddr m code).lo.toNat, (s.effAddr m code).hi.toNat)
  let d := s.regs.d + off
  let sp := s.regs.s + off
  let far (p : Word) : Nat := (s.readMem (addr 0x00#8 (p + 2#16))).toNat * 65536 + (at' p).toNat
  let al : Nat := (code.getD 2 0x00#8).toNat * 65536 + aa.toNat
  ea .dp = bank0 d ∧ ea .dpX = bank0 (d + s.regs.x) ∧ ea .dpY = bank0 (d + s.regs.y) ∧
  ea .dpInd = inDb (at' d) ∧ ea .dpXInd = inDb (at' (d + s.regs.x)) ∧ ea .dpIndY = inDb (at' d + s.regs.y) ∧
  ea .dpLong = long (far d) ∧ ea .dpLongY = long (far d + s.regs.y.toNat) ∧
  ea .abs = inDb aa ∧ ea .absX = inDb (aa + s.regs.x) ∧ ea .absY = inDb (aa + s.regs.y) ∧
  ea .long = long al ∧ ea .longX = long (al + s.regs.x.toNat) ∧
  ea .sr = bank0 sp ∧ ea .srIndY = inDb (at' sp + s.regs.y)
end

