-- ==== Sys2Proof/Laws/Bits.lean ====
section
/-! SUPPORT. Bytes of words and addresses (00_scope.md R11): taking apart and putting together, the register views at
each width (10_state.md R21, R22), and addresses as numbers. -/

namespace Sys2Proof.Machine

/-- A word as a number: 256 to the high byte. -/
theorem toNat_word (h l : Byte) : (word h l).toNat = h.toNat * 256 + l.toNat := by
  have e : (word h l).toNat = h.toNat <<< 8 ||| l.toNat := BitVec.toNat_append h l
  rw [e, ← Nat.shiftLeft_add_eq_or_of_lt l.isLt, Nat.shiftLeft_eq]

/-- An address as a number: 65536 to the bank. -/
theorem toNat_addr (b : Byte) (o : Word) : (addr b o).toNat = b.toNat * 65536 + o.toNat := by
  have e : (addr b o).toNat = b.toNat <<< 16 ||| o.toNat := BitVec.toNat_append b o
  rw [e, ← Nat.shiftLeft_add_eq_or_of_lt o.isLt, Nat.shiftLeft_eq]

theorem toNat_lo8 (v : Word) : (lo8 v).toNat = v.toNat % 256 := by simp [lo8]
theorem toNat_hi8 (v : Word) : (hi8 v).toNat = v.toNat / 256 := by
  simp [hi8, Nat.shiftRight_eq_div_pow]; omega
theorem toNat_bankOf (a : Addr) : (bankOf a).toNat = a.toNat / 65536 := by
  simp [bankOf, Nat.shiftRight_eq_div_pow]; omega
theorem toNat_offsetOf (a : Addr) : (offsetOf a).toNat = a.toNat % 65536 := by simp [offsetOf]

@[simp] theorem lo8_word (h l : Byte) : lo8 (word h l) = l :=
  BitVec.eq_of_toNat_eq (by rw [toNat_lo8, toNat_word]; omega)

@[simp] theorem hi8_word (h l : Byte) : hi8 (word h l) = h :=
  BitVec.eq_of_toNat_eq (by rw [toNat_hi8, toNat_word]; omega)

@[simp] theorem word_hi8_lo8 (v : Word) : word (hi8 v) (lo8 v) = v :=
  BitVec.eq_of_toNat_eq (by rw [toNat_word, toNat_hi8, toNat_lo8]; omega)

@[simp] theorem bankOf_addr (b : Byte) (o : Word) : bankOf (addr b o) = b :=
  BitVec.eq_of_toNat_eq (by rw [toNat_bankOf, toNat_addr]; omega)

@[simp] theorem offsetOf_addr (b : Byte) (o : Word) : offsetOf (addr b o) = o :=
  BitVec.eq_of_toNat_eq (by rw [toNat_offsetOf, toNat_addr]; omega)

@[simp] theorem addr_bankOf_offsetOf (a : Addr) : addr (bankOf a) (offsetOf a) = a :=
  BitVec.eq_of_toNat_eq (by rw [toNat_addr, toNat_bankOf, toNat_offsetOf]; omega)

/-- Addresses are equal exactly when bank and offset are. -/
@[simp] theorem addr_inj (b c : Byte) (o p : Word) : addr b o = addr c p ↔ b = c ∧ o = p :=
  ⟨fun h => ⟨by simpa using congrArg bankOf h, by simpa using congrArg offsetOf h⟩, fun h => by rw [h.1, h.2]⟩

@[simp] theorem lo8_zext (b : Byte) : lo8 (zext b) = b := by
  apply BitVec.eq_of_toNat_eq
  rw [toNat_lo8]
  simp [zext]
  omega

/-- The low byte is the view at 8 bits. -/
theorem setWidth_eq_lo8 (v : Word) : v.setWidth 8 = lo8 v := by
  apply BitVec.eq_of_toNat_eq
  simp [lo8]

@[simp] theorem Regs.getA_eight (r : Regs) : r.getA 8 = lo8 r.a := setWidth_eq_lo8 _
@[simp] theorem Regs.getX_eight (r : Regs) : r.getX 8 = lo8 r.x := setWidth_eq_lo8 _
@[simp] theorem Regs.getY_eight (r : Regs) : r.getY 8 = lo8 r.y := setWidth_eq_lo8 _
@[simp] theorem Regs.getA_sixteen (r : Regs) : r.getA 16 = r.a := BitVec.setWidth_eq _
@[simp] theorem Regs.getX_sixteen (r : Regs) : r.getX 16 = r.x := BitVec.setWidth_eq _
@[simp] theorem Regs.getY_sixteen (r : Regs) : r.getY 16 = r.y := BitVec.setWidth_eq _

/-- A write at 8 bits leaves the high byte (R21). -/
@[simp] theorem putLow_eight (old : Word) (v : Byte) : putLow old v = word (hi8 old) v := by simp [putLow]
/-- A write at 16 bits writes the whole register. -/
@[simp] theorem putLow_sixteen (old v : Word) : putLow old v = v := by simp [putLow]

end Sys2Proof.Machine
end

