-- ==== Sys2Proof/Laws/Memory.lean ====
section
/-! SUPPORT. The memory of the host (20_memory.md R64): a read after a write, the canonical form, and that the
canonical form is one form: memories that answer alike are the same list. -/

namespace Sys2Proof.Machine

/-- Widening the lower bound of a canonical memory. -/
theorem Memory.wfFrom_mono {m : Memory} {l k : Nat} (hkl : k ≤ l) (h : Memory.wfFrom (some l) m = true) :
    Memory.wfFrom (some k) m = true := by
  cases m with
  | nil => rfl
  | cons c m =>
    simp only [Memory.wfFrom, Bool.and_eq_true, decide_eq_true_eq] at h ⊢
    exact ⟨⟨⟨by omega, h.1.1.2⟩, h.1.2⟩, h.2⟩

/-- Dropping the lower bound of a canonical memory. -/
theorem Memory.wf_of_wfFrom {m : Memory} {l : Nat} (h : Memory.wfFrom (some l) m = true) : m.wf = true := by
  cases m with
  | nil => rfl
  | cons c m =>
    simp only [Memory.wf, Memory.wfFrom, Bool.and_eq_true, decide_eq_true_eq] at h ⊢
    exact ⟨⟨⟨trivial, h.1.1.2⟩, h.1.2⟩, h.2⟩

/-- An address at or below the bound is not listed. -/
theorem Memory.get_below {m : Memory} {l a : Nat} (h : Memory.wfFrom (some l) m = true) (ha : a ≤ l) :
    m.get a = Memory.unlisted := by
  induction m generalizing l with
  | nil => rfl
  | cons c m ih =>
    simp only [Memory.wfFrom, Bool.and_eq_true, decide_eq_true_eq] at h
    have hne : c.1 ≠ a := by omega
    simpa [Memory.get, hne] using ih h.2 (by omega)

/-- A write leaves every other address alone. -/
theorem Memory.get_set_other (m : Memory) {a b : Nat} (v : Byte) (h : b ≠ a) : (m.set a v).get b = m.get b := by
  induction m with
  | nil => by_cases hv : v = Memory.unlisted <;> simp [Memory.set, Memory.get, hv, h.symm]
  | cons c m ih =>
    simp only [Memory.set]
    split
    · simp only [Memory.get, ih]
    · split
      · rename_i h1 h2
        have : c.1 ≠ b := by omega
        split <;> simp [Memory.get, this, h.symm]
      · split <;> simp [Memory.get, h.symm]

/-- A read after a write to the same address gives the byte written. -/
theorem Memory.get_set_same {m : Memory} {lo : Option Nat} (hm : Memory.wfFrom lo m = true) (a : Nat) (v : Byte) :
    (m.set a v).get a = v := by
  induction m generalizing lo with
  | nil => by_cases hv : v = Memory.unlisted <;> simp [Memory.set, Memory.get, hv]
  | cons c m ih =>
    simp only [Memory.wfFrom, Bool.and_eq_true, decide_eq_true_eq] at hm
    simp only [Memory.set]
    split
    · have : c.1 ≠ a := by omega
      simpa [Memory.get, this] using ih hm.2
    · split
      · split
        · rename_i h2 hv
          rw [Memory.get_below hm.2 (by omega), hv]
        · simp [Memory.get]
      · split
        · rename_i h1 h2 hv
          have : c.1 ≠ a := h2
          simp only [Memory.get, this, if_false]
          rw [Memory.get_below hm.2 (by omega), hv]
        · simp [Memory.get]

/-- The lower bound of `Memory.wfFrom`, met. -/
theorem Memory.above (lo : Option Nat) (a : Nat) :
    (∀ l, lo = some l → l < a) → (match lo with | none => true | some l => decide (l < a)) = true := by
  cases lo with
  | none => exact fun _ => rfl
  | some l => exact fun h => by simpa using h l rfl

/-- A write keeps the canonical form, and the lower bound where the address lies above it. -/
theorem Memory.set_wfFrom {m : Memory} {lo : Option Nat} {a : Nat} (v : Byte) (hm : Memory.wfFrom lo m = true)
    (ha : a < 2 ^ 24) (hlo : ∀ l, lo = some l → l < a) : Memory.wfFrom lo (m.set a v) = true := by
  induction m generalizing lo with
  | nil =>
    simp only [Memory.set]
    split <;> rename_i hv
    · rfl
    · simp only [Memory.wfFrom, Bool.and_eq_true, decide_eq_true_eq]
      exact ⟨⟨⟨Memory.above lo a hlo, ha⟩, hv⟩, trivial⟩
  | cons c m ih =>
    have hm0 := hm
    simp only [Memory.wfFrom, Bool.and_eq_true, decide_eq_true_eq] at hm
    simp only [Memory.set]
    split
    · rename_i h1
      simp only [Memory.wfFrom, Bool.and_eq_true, decide_eq_true_eq]
      exact ⟨hm.1, ih hm.2 (by rintro l ⟨⟩; exact h1)⟩
    · split
      · rename_i h1 h2
        split
        · cases m with
          | nil => rfl
          | cons d m =>
            have h3 := hm.2
            simp only [Memory.wfFrom, Bool.and_eq_true, decide_eq_true_eq] at h3 ⊢
            refine ⟨⟨⟨?_, h3.1.1.2⟩, h3.1.2⟩, h3.2⟩
            cases lo with
            | none => rfl
            | some l => have := hlo l rfl; simp only [decide_eq_true_eq]; omega
        · rename_i hv
          subst h2
          simp only [Memory.wfFrom, Bool.and_eq_true, decide_eq_true_eq]
          exact ⟨⟨⟨Memory.above lo _ hlo, ha⟩, hv⟩, hm.2⟩
      · rename_i h1 h2
        split <;> rename_i hv
        · exact hm0
        · simp only [Memory.wfFrom, Bool.and_eq_true, decide_eq_true_eq]
          exact ⟨⟨⟨Memory.above lo a hlo, ha⟩, hv⟩, ⟨⟨by omega, hm.1.1.2⟩, hm.1.2⟩, hm.2⟩

/-- A write to a bus address keeps the canonical form. -/
theorem Memory.set_wf {m : Memory} (hm : m.wf = true) (a : Addr) (v : Byte) : (m.set a.toNat v).wf = true :=
  Memory.set_wfFrom v hm a.isLt (by intro l h; cases h)

/-- Writing a list of bytes keeps the canonical form. -/
theorem Memory.setBytes_wf {m : Memory} (hm : m.wf = true) (bank : Byte) (o : Word) (bs : List Byte) :
    (m.setBytes bank o bs).wf = true := by
  induction bs generalizing m o with
  | nil => exact hm
  | cons b bs ih => exact ih (Memory.set_wf hm _ _) _

/-- No address outside the 24-bit space is listed. -/
theorem Memory.get_outside {m : Memory} {lo : Option Nat} (hm : Memory.wfFrom lo m = true) {a : Nat}
    (ha : 2 ^ 24 ≤ a) : m.get a = Memory.unlisted := by
  induction m generalizing lo with
  | nil => rfl
  | cons c m ih =>
    simp only [Memory.wfFrom, Bool.and_eq_true, decide_eq_true_eq] at hm
    have : c.1 ≠ a := by omega
    simpa [Memory.get, this] using ih hm.2

/-- The canonical form is one form: memories that answer every read alike are equal data. -/
theorem Memory.ext_of_wf {m k : Memory} {lo lo' : Option Nat} (hm : Memory.wfFrom lo m = true)
    (hk : Memory.wfFrom lo' k = true) (h : ∀ a, m.get a = k.get a) : m = k := by
  induction m generalizing k lo lo' with
  | nil =>
    cases k with
    | nil => rfl
    | cons d k =>
      have h1 := h d.1
      simp only [Memory.wfFrom, Bool.and_eq_true, decide_eq_true_eq] at hk
      simp only [Memory.get, if_true] at h1
      exact absurd h1.symm hk.1.2
  | cons c m ih =>
    cases k with
    | nil =>
      have h1 := h c.1
      simp only [Memory.wfFrom, Bool.and_eq_true, decide_eq_true_eq] at hm
      simp only [Memory.get, if_true] at h1
      exact absurd h1 hm.1.2
    | cons d k =>
      simp only [Memory.wfFrom, Bool.and_eq_true, decide_eq_true_eq] at hm hk
      have h1 := h c.1
      have h2 := h d.1
      simp only [Memory.get, if_true] at h1 h2
      have heq : c.1 = d.1 := by
        rcases Nat.lt_trichotomy c.1 d.1 with hl | he | hl
        · rw [if_neg (by omega), Memory.get_below hk.2 (by omega)] at h1
          exact absurd h1 hm.1.2
        · exact he
        · rw [if_neg (by omega), Memory.get_below hm.2 (by omega)] at h2
          exact absurd h2.symm hk.1.2
      rw [if_pos heq.symm] at h1
      have hcd : c = d := Prod.ext heq h1
      subst hcd
      congr 1
      refine ih hm.2 hk.2 fun a => ?_
      by_cases ha : c.1 = a
      · subst ha
        rw [Memory.get_below hm.2 (Nat.le_refl _), Memory.get_below hk.2 (Nat.le_refl _)]
      · have := h a
        simpa [Memory.get, ha] using this

/-- The memory at reset has the canonical form. -/
theorem State.reset_mem_wf : State.reset.mem.wf = true := rfl

/-- The byte read at a bus address after a write to another. -/
theorem State.readMem_of_mem {s t : State} (h : t.mem = s.mem) (a : Addr) : t.readMem a = s.readMem a := by
  simp only [State.readMem, h]

end Sys2Proof.Machine
end

