-- ==== Sys2Proof/Laws/State.lean ====
section
/-! SUPPORT. What each update of the state and of the register file leaves in each field: one lemma for each field of
each update, so that no proof unfolds a record update. -/

namespace Sys2Proof.Machine

/-! ## Updates of the state -/

section
variable (s : State) (a : Addr) (r : Regs)
@[simp] theorem State.cycRead_regs : (s.cycRead a r).regs = r := rfl
@[simp] theorem State.cycRead_cont : (s.cycRead a r).cont = s.cont := rfl
@[simp] theorem State.cycRead_abus : (s.cycRead a r).abus = a := rfl
@[simp] theorem State.cycRead_dbus : (s.cycRead a r).dbus = s.dbus := rfl
@[simp] theorem State.cycRead_last : (s.cycRead a r).last = .read := rfl
@[simp] theorem State.cycRead_lat : (s.cycRead a r).lat = s.lat := rfl
@[simp] theorem State.cycRead_wb : (s.cycRead a r).wb = s.wb := rfl
@[simp] theorem State.cycRead_mem : (s.cycRead a r).mem = s.mem := rfl
@[simp] theorem State.cycRead_implSet : (s.cycRead a r).implSet = s.implSet := rfl
@[simp] theorem State.cycRead_launched : (s.cycRead a r).launched = s.launched := rfl
@[simp] theorem State.cycRead_trace : (s.cycRead a r).trace = s.trace ++ [.read a] := rfl
@[simp] theorem State.cycRead_moment : (s.cycRead a r).moment = s.moment + 1 := rfl
end

section
variable (s : State) (a : Addr) (v : Byte) (r : Regs)
@[simp] theorem State.cycWrite_regs : (s.cycWrite a v r).regs = r := rfl
@[simp] theorem State.cycWrite_cont : (s.cycWrite a v r).cont = s.cont := rfl
@[simp] theorem State.cycWrite_abus : (s.cycWrite a v r).abus = a := rfl
@[simp] theorem State.cycWrite_dbus : (s.cycWrite a v r).dbus = v := rfl
@[simp] theorem State.cycWrite_last : (s.cycWrite a v r).last = .write := rfl
@[simp] theorem State.cycWrite_lat : (s.cycWrite a v r).lat = s.lat := rfl
@[simp] theorem State.cycWrite_wb : (s.cycWrite a v r).wb = s.wb := rfl
@[simp] theorem State.cycWrite_mem : (s.cycWrite a v r).mem = s.mem := rfl
@[simp] theorem State.cycWrite_implSet : (s.cycWrite a v r).implSet = s.implSet := rfl
@[simp] theorem State.cycWrite_launched : (s.cycWrite a v r).launched = s.launched := rfl
@[simp] theorem State.cycWrite_trace : (s.cycWrite a v r).trace = s.trace ++ [.write a v] := rfl
@[simp] theorem State.cycWrite_moment : (s.cycWrite a v r).moment = s.moment + 1 := rfl
end

section
variable (s : State) (r : Regs)
@[simp] theorem State.cycIdle_regs : (s.cycIdle r).regs = r := rfl
@[simp] theorem State.cycIdle_cont : (s.cycIdle r).cont = s.cont := rfl
@[simp] theorem State.cycIdle_abus : (s.cycIdle r).abus = Config.idleAddr s.moment := rfl
@[simp] theorem State.cycIdle_dbus : (s.cycIdle r).dbus = s.dbus := rfl
@[simp] theorem State.cycIdle_last : (s.cycIdle r).last = .internal := rfl
@[simp] theorem State.cycIdle_lat : (s.cycIdle r).lat = s.lat := rfl
@[simp] theorem State.cycIdle_wb : (s.cycIdle r).wb = s.wb := rfl
@[simp] theorem State.cycIdle_mem : (s.cycIdle r).mem = s.mem := rfl
@[simp] theorem State.cycIdle_implSet : (s.cycIdle r).implSet = s.implSet := rfl
@[simp] theorem State.cycIdle_launched : (s.cycIdle r).launched = s.launched := rfl
@[simp] theorem State.cycIdle_trace : (s.cycIdle r).trace = s.trace ++ [.internal] := rfl
@[simp] theorem State.cycIdle_moment : (s.cycIdle r).moment = s.moment + 1 := rfl
end

section
variable (s : State)
@[simp] theorem State.goOn_regs : (s.goOn).regs = s.regs := rfl
@[simp] theorem State.goOn_abus : (s.goOn).abus = s.abus := rfl
@[simp] theorem State.goOn_dbus : (s.goOn).dbus = s.dbus := rfl
@[simp] theorem State.goOn_last : (s.goOn).last = s.last := rfl
@[simp] theorem State.goOn_lat : (s.goOn).lat = s.lat := rfl
@[simp] theorem State.goOn_wb : (s.goOn).wb = s.wb := rfl
@[simp] theorem State.goOn_mem : (s.goOn).mem = s.mem := rfl
@[simp] theorem State.goOn_implSet : (s.goOn).implSet = s.implSet := rfl
@[simp] theorem State.goOn_launched : (s.goOn).launched = s.launched := rfl
@[simp] theorem State.goOn_trace : (s.goOn).trace = s.trace := rfl
@[simp] theorem State.goOn_moment : (s.goOn).moment = s.moment := rfl
end

section
variable (s : State) (d : Bool)
@[simp] theorem State.finish_regs : (s.finish d).regs = s.regs := rfl
@[simp] theorem State.finish_cont : (s.finish d).cont = .fetch := rfl
@[simp] theorem State.finish_abus : (s.finish d).abus = s.abus := rfl
@[simp] theorem State.finish_dbus : (s.finish d).dbus = s.dbus := rfl
@[simp] theorem State.finish_last : (s.finish d).last = s.last := rfl
@[simp] theorem State.finish_lat : (s.finish d).lat = s.lat := rfl
@[simp] theorem State.finish_wb : (s.finish d).wb = if d then some s.lat else none := rfl
@[simp] theorem State.finish_mem : (s.finish d).mem = s.mem := rfl
@[simp] theorem State.finish_implSet : (s.finish d).implSet = s.implSet := rfl
@[simp] theorem State.finish_launched : (s.finish d).launched = s.launched := rfl
@[simp] theorem State.finish_trace : (s.finish d).trace = s.trace := rfl
@[simp] theorem State.finish_moment : (s.finish d).moment = s.moment := rfl
end

section
variable (s : State) (b : Byte)
@[simp] theorem State.supply_regs : (s.supply b).regs = s.regs := rfl
@[simp] theorem State.supply_cont : (s.supply b).cont = s.cont := rfl
@[simp] theorem State.supply_abus : (s.supply b).abus = s.abus := rfl
@[simp] theorem State.supply_dbus : (s.supply b).dbus = b := rfl
@[simp] theorem State.supply_last : (s.supply b).last = s.last := rfl
@[simp] theorem State.supply_lat : (s.supply b).lat = s.lat := rfl
@[simp] theorem State.supply_wb : (s.supply b).wb = s.wb := rfl
@[simp] theorem State.supply_mem : (s.supply b).mem = s.mem := rfl
@[simp] theorem State.supply_implSet : (s.supply b).implSet = s.implSet := rfl
@[simp] theorem State.supply_launched : (s.supply b).launched = s.launched := rfl
@[simp] theorem State.supply_trace : (s.supply b).trace = s.trace := rfl
@[simp] theorem State.supply_moment : (s.supply b).moment = s.moment := rfl
end

section
variable (s : State)
@[simp] theorem State.store_regs : (s.store).regs = s.regs := rfl
@[simp] theorem State.store_cont : (s.store).cont = s.cont := rfl
@[simp] theorem State.store_abus : (s.store).abus = s.abus := rfl
@[simp] theorem State.store_dbus : (s.store).dbus = s.dbus := rfl
@[simp] theorem State.store_last : (s.store).last = s.last := rfl
@[simp] theorem State.store_lat : (s.store).lat = s.lat := rfl
@[simp] theorem State.store_wb : (s.store).wb = s.wb := rfl
@[simp] theorem State.store_mem : (s.store).mem = s.mem.set s.abus.toNat s.dbus := rfl
@[simp] theorem State.store_implSet : (s.store).implSet = s.implSet := rfl
@[simp] theorem State.store_launched : (s.store).launched = s.launched := rfl
@[simp] theorem State.store_trace : (s.store).trace = s.trace := rfl
@[simp] theorem State.store_moment : (s.store).moment = s.moment := rfl
end

section
variable (s : State)
@[simp] theorem State.consume_regs : (s.consume).regs = s.regs := by unfold State.consume; split <;> rfl
@[simp] theorem State.consume_cont : (s.consume).cont = s.cont := by unfold State.consume; split <;> rfl
@[simp] theorem State.consume_abus : (s.consume).abus = s.abus := by unfold State.consume; split <;> rfl
@[simp] theorem State.consume_dbus : (s.consume).dbus = s.dbus := by unfold State.consume; split <;> rfl
@[simp] theorem State.consume_last : (s.consume).last = s.last := by unfold State.consume; split <;> rfl
@[simp] theorem State.consume_wb : (s.consume).wb = s.wb := by unfold State.consume; split <;> rfl
@[simp] theorem State.consume_mem : (s.consume).mem = s.mem := by unfold State.consume; split <;> rfl
@[simp] theorem State.consume_implSet : (s.consume).implSet = s.implSet := by unfold State.consume; split <;> rfl
@[simp] theorem State.consume_launched : (s.consume).launched = s.launched := by unfold State.consume; split <;> rfl
@[simp] theorem State.consume_trace : (s.consume).trace = s.trace := by unfold State.consume; split <;> rfl
@[simp] theorem State.consume_moment : (s.consume).moment = s.moment := by unfold State.consume; split <;> rfl
end

section
variable (s : State)
@[simp] theorem State.startFetch_regs : (s.startFetch).regs = s.regs.incPc := rfl
@[simp] theorem State.startFetch_cont : (s.startFetch).cont = .decode := rfl
@[simp] theorem State.startFetch_abus : (s.startFetch).abus = s.regs.codeAddr := rfl
@[simp] theorem State.startFetch_dbus : (s.startFetch).dbus = s.dbus := rfl
@[simp] theorem State.startFetch_last : (s.startFetch).last = .read := rfl
@[simp] theorem State.startFetch_lat : (s.startFetch).lat = { s.lat with pc0 := s.regs.pc } := rfl
@[simp] theorem State.startFetch_wb : (s.startFetch).wb = s.wb := rfl
@[simp] theorem State.startFetch_mem : (s.startFetch).mem = s.mem := rfl
@[simp] theorem State.startFetch_implSet : (s.startFetch).implSet = s.implSet := rfl
@[simp] theorem State.startFetch_launched : (s.startFetch).launched = s.launched := rfl
@[simp] theorem State.startFetch_trace : (s.startFetch).trace = [.read s.regs.codeAddr] := rfl
@[simp] theorem State.startFetch_moment : (s.startFetch).moment = s.moment + 1 := rfl
end

section
variable (s : State) (op : Byte)
@[simp] theorem State.latchOpcode_regs : (s.latchOpcode op).regs = s.regs := rfl
@[simp] theorem State.latchOpcode_cont : (s.latchOpcode op).cont = s.cont := rfl
@[simp] theorem State.latchOpcode_abus : (s.latchOpcode op).abus = s.abus := rfl
@[simp] theorem State.latchOpcode_dbus : (s.latchOpcode op).dbus = s.dbus := rfl
@[simp] theorem State.latchOpcode_last : (s.latchOpcode op).last = s.last := rfl
@[simp] theorem State.latchOpcode_lat : (s.latchOpcode op).lat = { op := op, pc0 := s.lat.pc0, base := s.regs, bytes := [] } := rfl
@[simp] theorem State.latchOpcode_wb : (s.latchOpcode op).wb = s.wb := rfl
@[simp] theorem State.latchOpcode_mem : (s.latchOpcode op).mem = s.mem := rfl
@[simp] theorem State.latchOpcode_implSet : (s.latchOpcode op).implSet = s.implSet := rfl
@[simp] theorem State.latchOpcode_launched : (s.latchOpcode op).launched = s.launched := rfl
@[simp] theorem State.latchOpcode_trace : (s.latchOpcode op).trace = s.trace := rfl
@[simp] theorem State.latchOpcode_moment : (s.latchOpcode op).moment = s.moment := rfl
end

section
variable (s : State) (f : Fault)
@[simp] theorem State.raise_regs : (s.raise f).regs = s.regs := rfl
@[simp] theorem State.raise_cont : (s.raise f).cont = .halted f := rfl
@[simp] theorem State.raise_abus : (s.raise f).abus = s.abus := rfl
@[simp] theorem State.raise_dbus : (s.raise f).dbus = s.dbus := rfl
@[simp] theorem State.raise_last : (s.raise f).last = s.last := rfl
@[simp] theorem State.raise_lat : (s.raise f).lat = s.lat := rfl
@[simp] theorem State.raise_wb : (s.raise f).wb = s.wb := rfl
@[simp] theorem State.raise_mem : (s.raise f).mem = s.mem := rfl
@[simp] theorem State.raise_implSet : (s.raise f).implSet = s.implSet := rfl
@[simp] theorem State.raise_launched : (s.raise f).launched = s.launched := rfl
@[simp] theorem State.raise_trace : (s.raise f).trace = s.trace := rfl
@[simp] theorem State.raise_moment : (s.raise f).moment = s.moment := rfl
end

section
variable (s : State) (op : Byte)
@[simp] theorem State.fetchOpcode_regs : (s.fetchOpcode op).regs = s.regs.incPc := rfl
@[simp] theorem State.fetchOpcode_cont : (s.fetchOpcode op).cont = .decode := rfl
@[simp] theorem State.fetchOpcode_abus : (s.fetchOpcode op).abus = s.regs.codeAddr := rfl
@[simp] theorem State.fetchOpcode_dbus : (s.fetchOpcode op).dbus = op := rfl
@[simp] theorem State.fetchOpcode_last : (s.fetchOpcode op).last = .read := rfl
@[simp] theorem State.fetchOpcode_lat : (s.fetchOpcode op).lat = { op := op, pc0 := s.regs.pc, base := s.regs.incPc, bytes := [] } := rfl
@[simp] theorem State.fetchOpcode_wb : (s.fetchOpcode op).wb = s.wb := rfl
@[simp] theorem State.fetchOpcode_mem : (s.fetchOpcode op).mem = s.mem := rfl
@[simp] theorem State.fetchOpcode_implSet : (s.fetchOpcode op).implSet = s.implSet := rfl
@[simp] theorem State.fetchOpcode_launched : (s.fetchOpcode op).launched = s.launched := rfl
@[simp] theorem State.fetchOpcode_trace : (s.fetchOpcode op).trace = [.read s.regs.codeAddr] := rfl
@[simp] theorem State.fetchOpcode_moment : (s.fetchOpcode op).moment = s.moment + 1 := rfl
end

section
variable (s : State) (op : Byte)
@[simp] theorem State.rejectOpcode_regs : (s.rejectOpcode op).regs = s.regs.incPc := rfl
@[simp] theorem State.rejectOpcode_cont : (s.rejectOpcode op).cont = .halted (.unimplementedOpcode op s.regs.pb s.regs.pc) := rfl
@[simp] theorem State.rejectOpcode_abus : (s.rejectOpcode op).abus = s.regs.codeAddr := rfl
@[simp] theorem State.rejectOpcode_dbus : (s.rejectOpcode op).dbus = op := rfl
@[simp] theorem State.rejectOpcode_last : (s.rejectOpcode op).last = .read := rfl
@[simp] theorem State.rejectOpcode_lat : (s.rejectOpcode op).lat = { op := op, pc0 := s.regs.pc, base := s.regs.incPc, bytes := [] } := rfl
@[simp] theorem State.rejectOpcode_wb : (s.rejectOpcode op).wb = s.wb := rfl
@[simp] theorem State.rejectOpcode_mem : (s.rejectOpcode op).mem = s.mem := rfl
@[simp] theorem State.rejectOpcode_implSet : (s.rejectOpcode op).implSet = s.implSet := rfl
@[simp] theorem State.rejectOpcode_launched : (s.rejectOpcode op).launched = s.launched := rfl
@[simp] theorem State.rejectOpcode_trace : (s.rejectOpcode op).trace = [.read s.regs.codeAddr] := rfl
@[simp] theorem State.rejectOpcode_moment : (s.rejectOpcode op).moment = s.moment + 1 := rfl
end

section
variable (s : State) (v : Word) (dr : ResetDraw) (bd : BusDraw)
@[simp] theorem State.resetTo_regs : (s.resetTo v dr bd).regs = Regs.resetTo v dr := rfl
@[simp] theorem State.resetTo_cont : (s.resetTo v dr bd).cont = .fetch := rfl
@[simp] theorem State.resetTo_abus : (s.resetTo v dr bd).abus = bd.abus := rfl
@[simp] theorem State.resetTo_dbus : (s.resetTo v dr bd).dbus = bd.dbus := rfl
@[simp] theorem State.resetTo_last : (s.resetTo v dr bd).last = .internal := rfl
@[simp] theorem State.resetTo_lat : (s.resetTo v dr bd).lat = bd.lat := rfl
@[simp] theorem State.resetTo_wb : (s.resetTo v dr bd).wb = none := rfl
@[simp] theorem State.resetTo_mem : (s.resetTo v dr bd).mem = s.mem := rfl
@[simp] theorem State.resetTo_implSet : (s.resetTo v dr bd).implSet = s.implSet := rfl
@[simp] theorem State.resetTo_launched : (s.resetTo v dr bd).launched = true := rfl
@[simp] theorem State.resetTo_trace : (s.resetTo v dr bd).trace = [] := rfl
@[simp] theorem State.resetTo_moment : (s.resetTo v dr bd).moment = s.moment := rfl
end

section
variable (s : State) (code : List Byte)
@[simp] theorem State.placeCode_regs : (s.placeCode code).regs = s.regs := rfl
@[simp] theorem State.placeCode_cont : (s.placeCode code).cont = s.cont := rfl
@[simp] theorem State.placeCode_abus : (s.placeCode code).abus = s.abus := rfl
@[simp] theorem State.placeCode_dbus : (s.placeCode code).dbus = s.dbus := rfl
@[simp] theorem State.placeCode_last : (s.placeCode code).last = s.last := rfl
@[simp] theorem State.placeCode_lat : (s.placeCode code).lat = s.lat := rfl
@[simp] theorem State.placeCode_wb : (s.placeCode code).wb = s.wb := rfl
@[simp] theorem State.placeCode_mem : (s.placeCode code).mem = s.mem.setBytes s.fetchRegs.pb s.fetchRegs.pc code := rfl
@[simp] theorem State.placeCode_implSet : (s.placeCode code).implSet = s.implSet := rfl
@[simp] theorem State.placeCode_launched : (s.placeCode code).launched = s.launched := rfl
@[simp] theorem State.placeCode_trace : (s.placeCode code).trace = s.trace := rfl
@[simp] theorem State.placeCode_moment : (s.placeCode code).moment = s.moment := rfl
end

/-! ## Updates of the register file -/

section
variable (r : Regs) {n : Nat} (v : BitVec n)
@[simp] theorem Regs.setA_a : (r.setA v).a = putLow r.a v := rfl
@[simp] theorem Regs.setA_x : (r.setA v).x = r.x := rfl
@[simp] theorem Regs.setA_y : (r.setA v).y = r.y := rfl
@[simp] theorem Regs.setA_db : (r.setA v).db = r.db := rfl
@[simp] theorem Regs.setA_d : (r.setA v).d = r.d := rfl
@[simp] theorem Regs.setA_pb : (r.setA v).pb = r.pb := rfl
@[simp] theorem Regs.setA_pc : (r.setA v).pc = r.pc := rfl
@[simp] theorem Regs.setA_s : (r.setA v).s = r.s := rfl
@[simp] theorem Regs.setA_fN : (r.setA v).fN = r.fN := rfl
@[simp] theorem Regs.setA_fV : (r.setA v).fV = r.fV := rfl
@[simp] theorem Regs.setA_fM : (r.setA v).fM = r.fM := rfl
@[simp] theorem Regs.setA_fX : (r.setA v).fX = r.fX := rfl
@[simp] theorem Regs.setA_fD : (r.setA v).fD = r.fD := rfl
@[simp] theorem Regs.setA_fI : (r.setA v).fI = r.fI := rfl
@[simp] theorem Regs.setA_fZ : (r.setA v).fZ = r.fZ := rfl
@[simp] theorem Regs.setA_fC : (r.setA v).fC = r.fC := rfl
@[simp] theorem Regs.setA_fE : (r.setA v).fE = r.fE := rfl
end

section
variable (r : Regs) {n : Nat} (v : BitVec n)
@[simp] theorem Regs.setX_a : (r.setX v).a = r.a := rfl
@[simp] theorem Regs.setX_x : (r.setX v).x = putLow r.x v := rfl
@[simp] theorem Regs.setX_y : (r.setX v).y = r.y := rfl
@[simp] theorem Regs.setX_db : (r.setX v).db = r.db := rfl
@[simp] theorem Regs.setX_d : (r.setX v).d = r.d := rfl
@[simp] theorem Regs.setX_pb : (r.setX v).pb = r.pb := rfl
@[simp] theorem Regs.setX_pc : (r.setX v).pc = r.pc := rfl
@[simp] theorem Regs.setX_s : (r.setX v).s = r.s := rfl
@[simp] theorem Regs.setX_fN : (r.setX v).fN = r.fN := rfl
@[simp] theorem Regs.setX_fV : (r.setX v).fV = r.fV := rfl
@[simp] theorem Regs.setX_fM : (r.setX v).fM = r.fM := rfl
@[simp] theorem Regs.setX_fX : (r.setX v).fX = r.fX := rfl
@[simp] theorem Regs.setX_fD : (r.setX v).fD = r.fD := rfl
@[simp] theorem Regs.setX_fI : (r.setX v).fI = r.fI := rfl
@[simp] theorem Regs.setX_fZ : (r.setX v).fZ = r.fZ := rfl
@[simp] theorem Regs.setX_fC : (r.setX v).fC = r.fC := rfl
@[simp] theorem Regs.setX_fE : (r.setX v).fE = r.fE := rfl
end

section
variable (r : Regs) {n : Nat} (v : BitVec n)
@[simp] theorem Regs.setY_a : (r.setY v).a = r.a := rfl
@[simp] theorem Regs.setY_x : (r.setY v).x = r.x := rfl
@[simp] theorem Regs.setY_y : (r.setY v).y = putLow r.y v := rfl
@[simp] theorem Regs.setY_db : (r.setY v).db = r.db := rfl
@[simp] theorem Regs.setY_d : (r.setY v).d = r.d := rfl
@[simp] theorem Regs.setY_pb : (r.setY v).pb = r.pb := rfl
@[simp] theorem Regs.setY_pc : (r.setY v).pc = r.pc := rfl
@[simp] theorem Regs.setY_s : (r.setY v).s = r.s := rfl
@[simp] theorem Regs.setY_fN : (r.setY v).fN = r.fN := rfl
@[simp] theorem Regs.setY_fV : (r.setY v).fV = r.fV := rfl
@[simp] theorem Regs.setY_fM : (r.setY v).fM = r.fM := rfl
@[simp] theorem Regs.setY_fX : (r.setY v).fX = r.fX := rfl
@[simp] theorem Regs.setY_fD : (r.setY v).fD = r.fD := rfl
@[simp] theorem Regs.setY_fI : (r.setY v).fI = r.fI := rfl
@[simp] theorem Regs.setY_fZ : (r.setY v).fZ = r.fZ := rfl
@[simp] theorem Regs.setY_fC : (r.setY v).fC = r.fC := rfl
@[simp] theorem Regs.setY_fE : (r.setY v).fE = r.fE := rfl
end

section
variable (r : Regs) {n : Nat} (v : BitVec n)
@[simp] theorem Regs.setNZ_a : (r.setNZ v).a = r.a := rfl
@[simp] theorem Regs.setNZ_x : (r.setNZ v).x = r.x := rfl
@[simp] theorem Regs.setNZ_y : (r.setNZ v).y = r.y := rfl
@[simp] theorem Regs.setNZ_db : (r.setNZ v).db = r.db := rfl
@[simp] theorem Regs.setNZ_d : (r.setNZ v).d = r.d := rfl
@[simp] theorem Regs.setNZ_pb : (r.setNZ v).pb = r.pb := rfl
@[simp] theorem Regs.setNZ_pc : (r.setNZ v).pc = r.pc := rfl
@[simp] theorem Regs.setNZ_s : (r.setNZ v).s = r.s := rfl
@[simp] theorem Regs.setNZ_fN : (r.setNZ v).fN = v.msb := rfl
@[simp] theorem Regs.setNZ_fV : (r.setNZ v).fV = r.fV := rfl
@[simp] theorem Regs.setNZ_fM : (r.setNZ v).fM = r.fM := rfl
@[simp] theorem Regs.setNZ_fX : (r.setNZ v).fX = r.fX := rfl
@[simp] theorem Regs.setNZ_fD : (r.setNZ v).fD = r.fD := rfl
@[simp] theorem Regs.setNZ_fI : (r.setNZ v).fI = r.fI := rfl
@[simp] theorem Regs.setNZ_fZ : (r.setNZ v).fZ = (v == 0#n) := rfl
@[simp] theorem Regs.setNZ_fC : (r.setNZ v).fC = r.fC := rfl
@[simp] theorem Regs.setNZ_fE : (r.setNZ v).fE = r.fE := rfl
end

section
variable (r : Regs)
@[simp] theorem Regs.incPc_a : (r.incPc).a = r.a := rfl
@[simp] theorem Regs.incPc_x : (r.incPc).x = r.x := rfl
@[simp] theorem Regs.incPc_y : (r.incPc).y = r.y := rfl
@[simp] theorem Regs.incPc_db : (r.incPc).db = r.db := rfl
@[simp] theorem Regs.incPc_d : (r.incPc).d = r.d := rfl
@[simp] theorem Regs.incPc_pb : (r.incPc).pb = r.pb := rfl
@[simp] theorem Regs.incPc_pc : (r.incPc).pc = r.pc + 1#16 := rfl
@[simp] theorem Regs.incPc_s : (r.incPc).s = r.s := rfl
@[simp] theorem Regs.incPc_fN : (r.incPc).fN = r.fN := rfl
@[simp] theorem Regs.incPc_fV : (r.incPc).fV = r.fV := rfl
@[simp] theorem Regs.incPc_fM : (r.incPc).fM = r.fM := rfl
@[simp] theorem Regs.incPc_fX : (r.incPc).fX = r.fX := rfl
@[simp] theorem Regs.incPc_fD : (r.incPc).fD = r.fD := rfl
@[simp] theorem Regs.incPc_fI : (r.incPc).fI = r.fI := rfl
@[simp] theorem Regs.incPc_fZ : (r.incPc).fZ = r.fZ := rfl
@[simp] theorem Regs.incPc_fC : (r.incPc).fC = r.fC := rfl
@[simp] theorem Regs.incPc_fE : (r.incPc).fE = r.fE := rfl
end

section
variable (r : Regs) (v : Word)
@[simp] theorem Regs.setS_a : (r.setS v).a = r.a := rfl
@[simp] theorem Regs.setS_x : (r.setS v).x = r.x := rfl
@[simp] theorem Regs.setS_y : (r.setS v).y = r.y := rfl
@[simp] theorem Regs.setS_db : (r.setS v).db = r.db := rfl
@[simp] theorem Regs.setS_d : (r.setS v).d = r.d := rfl
@[simp] theorem Regs.setS_pb : (r.setS v).pb = r.pb := rfl
@[simp] theorem Regs.setS_pc : (r.setS v).pc = r.pc := rfl
@[simp] theorem Regs.setS_s : (r.setS v).s = if r.fE then word 0x01#8 (lo8 v) else v := rfl
@[simp] theorem Regs.setS_fN : (r.setS v).fN = r.fN := rfl
@[simp] theorem Regs.setS_fV : (r.setS v).fV = r.fV := rfl
@[simp] theorem Regs.setS_fM : (r.setS v).fM = r.fM := rfl
@[simp] theorem Regs.setS_fX : (r.setS v).fX = r.fX := rfl
@[simp] theorem Regs.setS_fD : (r.setS v).fD = r.fD := rfl
@[simp] theorem Regs.setS_fI : (r.setS v).fI = r.fI := rfl
@[simp] theorem Regs.setS_fZ : (r.setS v).fZ = r.fZ := rfl
@[simp] theorem Regs.setS_fC : (r.setS v).fC = r.fC := rfl
@[simp] theorem Regs.setS_fE : (r.setS v).fE = r.fE := rfl
end

section
variable (r : Regs) (v : Byte)
@[simp] theorem Regs.setP_a : (r.setP v).a = r.a := rfl
@[simp] theorem Regs.setP_x : (r.setP v).x = if r.fE then r.x else narrowIndex r.x r.fX (v.getLsbD 4) := rfl
@[simp] theorem Regs.setP_y : (r.setP v).y = if r.fE then r.y else narrowIndex r.y r.fX (v.getLsbD 4) := rfl
@[simp] theorem Regs.setP_db : (r.setP v).db = r.db := rfl
@[simp] theorem Regs.setP_d : (r.setP v).d = r.d := rfl
@[simp] theorem Regs.setP_pb : (r.setP v).pb = r.pb := rfl
@[simp] theorem Regs.setP_pc : (r.setP v).pc = r.pc := rfl
@[simp] theorem Regs.setP_s : (r.setP v).s = r.s := rfl
@[simp] theorem Regs.setP_fN : (r.setP v).fN = v.getLsbD 7 := rfl
@[simp] theorem Regs.setP_fV : (r.setP v).fV = v.getLsbD 6 := rfl
@[simp] theorem Regs.setP_fM : (r.setP v).fM = if r.fE then r.fM else v.getLsbD 5 := rfl
@[simp] theorem Regs.setP_fX : (r.setP v).fX = if r.fE then r.fX else v.getLsbD 4 := rfl
@[simp] theorem Regs.setP_fD : (r.setP v).fD = v.getLsbD 3 := rfl
@[simp] theorem Regs.setP_fI : (r.setP v).fI = v.getLsbD 2 := rfl
@[simp] theorem Regs.setP_fZ : (r.setP v).fZ = v.getLsbD 1 := rfl
@[simp] theorem Regs.setP_fC : (r.setP v).fC = v.getLsbD 0 := rfl
@[simp] theorem Regs.setP_fE : (r.setP v).fE = r.fE := rfl
end

section
variable (r : Regs)
@[simp] theorem Regs.enterEmulation_a : (r.enterEmulation).a = r.a := rfl
@[simp] theorem Regs.enterEmulation_x : (r.enterEmulation).x = word 0x00#8 (lo8 r.x) := rfl
@[simp] theorem Regs.enterEmulation_y : (r.enterEmulation).y = word 0x00#8 (lo8 r.y) := rfl
@[simp] theorem Regs.enterEmulation_db : (r.enterEmulation).db = r.db := rfl
@[simp] theorem Regs.enterEmulation_d : (r.enterEmulation).d = r.d := rfl
@[simp] theorem Regs.enterEmulation_pb : (r.enterEmulation).pb = r.pb := rfl
@[simp] theorem Regs.enterEmulation_pc : (r.enterEmulation).pc = r.pc := rfl
@[simp] theorem Regs.enterEmulation_s : (r.enterEmulation).s = word 0x01#8 (lo8 r.s) := rfl
@[simp] theorem Regs.enterEmulation_fN : (r.enterEmulation).fN = r.fN := rfl
@[simp] theorem Regs.enterEmulation_fV : (r.enterEmulation).fV = r.fV := rfl
@[simp] theorem Regs.enterEmulation_fM : (r.enterEmulation).fM = true := rfl
@[simp] theorem Regs.enterEmulation_fX : (r.enterEmulation).fX = true := rfl
@[simp] theorem Regs.enterEmulation_fD : (r.enterEmulation).fD = r.fD := rfl
@[simp] theorem Regs.enterEmulation_fI : (r.enterEmulation).fI = r.fI := rfl
@[simp] theorem Regs.enterEmulation_fZ : (r.enterEmulation).fZ = r.fZ := rfl
@[simp] theorem Regs.enterEmulation_fC : (r.enterEmulation).fC = r.fC := rfl
@[simp] theorem Regs.enterEmulation_fE : (r.enterEmulation).fE = r.fE := rfl
end

section
variable (r : Regs)
@[simp] theorem Regs.decS_a : (r.decS).a = r.a := rfl
@[simp] theorem Regs.decS_x : (r.decS).x = r.x := rfl
@[simp] theorem Regs.decS_y : (r.decS).y = r.y := rfl
@[simp] theorem Regs.decS_db : (r.decS).db = r.db := rfl
@[simp] theorem Regs.decS_d : (r.decS).d = r.d := rfl
@[simp] theorem Regs.decS_pb : (r.decS).pb = r.pb := rfl
@[simp] theorem Regs.decS_pc : (r.decS).pc = r.pc := rfl
@[simp] theorem Regs.decS_s : (r.decS).s = if r.fE then word 0x01#8 (lo8 (r.s - 1#16)) else r.s - 1#16 := rfl
@[simp] theorem Regs.decS_fN : (r.decS).fN = r.fN := rfl
@[simp] theorem Regs.decS_fV : (r.decS).fV = r.fV := rfl
@[simp] theorem Regs.decS_fM : (r.decS).fM = r.fM := rfl
@[simp] theorem Regs.decS_fX : (r.decS).fX = r.fX := rfl
@[simp] theorem Regs.decS_fD : (r.decS).fD = r.fD := rfl
@[simp] theorem Regs.decS_fI : (r.decS).fI = r.fI := rfl
@[simp] theorem Regs.decS_fZ : (r.decS).fZ = r.fZ := rfl
@[simp] theorem Regs.decS_fC : (r.decS).fC = r.fC := rfl
@[simp] theorem Regs.decS_fE : (r.decS).fE = r.fE := rfl
end

section
variable (r : Regs)
@[simp] theorem Regs.incS_a : (r.incS).a = r.a := rfl
@[simp] theorem Regs.incS_x : (r.incS).x = r.x := rfl
@[simp] theorem Regs.incS_y : (r.incS).y = r.y := rfl
@[simp] theorem Regs.incS_db : (r.incS).db = r.db := rfl
@[simp] theorem Regs.incS_d : (r.incS).d = r.d := rfl
@[simp] theorem Regs.incS_pb : (r.incS).pb = r.pb := rfl
@[simp] theorem Regs.incS_pc : (r.incS).pc = r.pc := rfl
@[simp] theorem Regs.incS_s : (r.incS).s = if r.fE then word 0x01#8 (lo8 (r.s + 1#16)) else r.s + 1#16 := rfl
@[simp] theorem Regs.incS_fN : (r.incS).fN = r.fN := rfl
@[simp] theorem Regs.incS_fV : (r.incS).fV = r.fV := rfl
@[simp] theorem Regs.incS_fM : (r.incS).fM = r.fM := rfl
@[simp] theorem Regs.incS_fX : (r.incS).fX = r.fX := rfl
@[simp] theorem Regs.incS_fD : (r.incS).fD = r.fD := rfl
@[simp] theorem Regs.incS_fI : (r.incS).fI = r.fI := rfl
@[simp] theorem Regs.incS_fZ : (r.incS).fZ = r.fZ := rfl
@[simp] theorem Regs.incS_fC : (r.incS).fC = r.fC := rfl
@[simp] theorem Regs.incS_fE : (r.incS).fE = r.fE := rfl
end

section
variable (r : Regs) {n : Nat} (v : BitVec n)
@[simp] theorem Regs.loadA_a : (r.loadA v).a = putLow r.a v := rfl
@[simp] theorem Regs.loadA_x : (r.loadA v).x = r.x := rfl
@[simp] theorem Regs.loadA_y : (r.loadA v).y = r.y := rfl
@[simp] theorem Regs.loadA_db : (r.loadA v).db = r.db := rfl
@[simp] theorem Regs.loadA_d : (r.loadA v).d = r.d := rfl
@[simp] theorem Regs.loadA_pb : (r.loadA v).pb = r.pb := rfl
@[simp] theorem Regs.loadA_pc : (r.loadA v).pc = r.pc := rfl
@[simp] theorem Regs.loadA_s : (r.loadA v).s = r.s := rfl
@[simp] theorem Regs.loadA_fN : (r.loadA v).fN = v.msb := rfl
@[simp] theorem Regs.loadA_fV : (r.loadA v).fV = r.fV := rfl
@[simp] theorem Regs.loadA_fM : (r.loadA v).fM = r.fM := rfl
@[simp] theorem Regs.loadA_fX : (r.loadA v).fX = r.fX := rfl
@[simp] theorem Regs.loadA_fD : (r.loadA v).fD = r.fD := rfl
@[simp] theorem Regs.loadA_fI : (r.loadA v).fI = r.fI := rfl
@[simp] theorem Regs.loadA_fZ : (r.loadA v).fZ = (v == 0#n) := rfl
@[simp] theorem Regs.loadA_fC : (r.loadA v).fC = r.fC := rfl
@[simp] theorem Regs.loadA_fE : (r.loadA v).fE = r.fE := rfl
end

section
variable (r : Regs) {n : Nat} (v : BitVec n)
@[simp] theorem Regs.loadX_a : (r.loadX v).a = r.a := rfl
@[simp] theorem Regs.loadX_x : (r.loadX v).x = putLow r.x v := rfl
@[simp] theorem Regs.loadX_y : (r.loadX v).y = r.y := rfl
@[simp] theorem Regs.loadX_db : (r.loadX v).db = r.db := rfl
@[simp] theorem Regs.loadX_d : (r.loadX v).d = r.d := rfl
@[simp] theorem Regs.loadX_pb : (r.loadX v).pb = r.pb := rfl
@[simp] theorem Regs.loadX_pc : (r.loadX v).pc = r.pc := rfl
@[simp] theorem Regs.loadX_s : (r.loadX v).s = r.s := rfl
@[simp] theorem Regs.loadX_fN : (r.loadX v).fN = v.msb := rfl
@[simp] theorem Regs.loadX_fV : (r.loadX v).fV = r.fV := rfl
@[simp] theorem Regs.loadX_fM : (r.loadX v).fM = r.fM := rfl
@[simp] theorem Regs.loadX_fX : (r.loadX v).fX = r.fX := rfl
@[simp] theorem Regs.loadX_fD : (r.loadX v).fD = r.fD := rfl
@[simp] theorem Regs.loadX_fI : (r.loadX v).fI = r.fI := rfl
@[simp] theorem Regs.loadX_fZ : (r.loadX v).fZ = (v == 0#n) := rfl
@[simp] theorem Regs.loadX_fC : (r.loadX v).fC = r.fC := rfl
@[simp] theorem Regs.loadX_fE : (r.loadX v).fE = r.fE := rfl
end

section
variable (r : Regs) {n : Nat} (v : BitVec n)
@[simp] theorem Regs.loadY_a : (r.loadY v).a = r.a := rfl
@[simp] theorem Regs.loadY_x : (r.loadY v).x = r.x := rfl
@[simp] theorem Regs.loadY_y : (r.loadY v).y = putLow r.y v := rfl
@[simp] theorem Regs.loadY_db : (r.loadY v).db = r.db := rfl
@[simp] theorem Regs.loadY_d : (r.loadY v).d = r.d := rfl
@[simp] theorem Regs.loadY_pb : (r.loadY v).pb = r.pb := rfl
@[simp] theorem Regs.loadY_pc : (r.loadY v).pc = r.pc := rfl
@[simp] theorem Regs.loadY_s : (r.loadY v).s = r.s := rfl
@[simp] theorem Regs.loadY_fN : (r.loadY v).fN = v.msb := rfl
@[simp] theorem Regs.loadY_fV : (r.loadY v).fV = r.fV := rfl
@[simp] theorem Regs.loadY_fM : (r.loadY v).fM = r.fM := rfl
@[simp] theorem Regs.loadY_fX : (r.loadY v).fX = r.fX := rfl
@[simp] theorem Regs.loadY_fD : (r.loadY v).fD = r.fD := rfl
@[simp] theorem Regs.loadY_fI : (r.loadY v).fI = r.fI := rfl
@[simp] theorem Regs.loadY_fZ : (r.loadY v).fZ = (v == 0#n) := rfl
@[simp] theorem Regs.loadY_fC : (r.loadY v).fC = r.fC := rfl
@[simp] theorem Regs.loadY_fE : (r.loadY v).fE = r.fE := rfl
end

section
variable (r : Regs) (v : Word)
@[simp] theorem Regs.loadD_a : (r.loadD v).a = r.a := rfl
@[simp] theorem Regs.loadD_x : (r.loadD v).x = r.x := rfl
@[simp] theorem Regs.loadD_y : (r.loadD v).y = r.y := rfl
@[simp] theorem Regs.loadD_db : (r.loadD v).db = r.db := rfl
@[simp] theorem Regs.loadD_d : (r.loadD v).d = v := rfl
@[simp] theorem Regs.loadD_pb : (r.loadD v).pb = r.pb := rfl
@[simp] theorem Regs.loadD_pc : (r.loadD v).pc = r.pc := rfl
@[simp] theorem Regs.loadD_s : (r.loadD v).s = r.s := rfl
@[simp] theorem Regs.loadD_fN : (r.loadD v).fN = v.msb := rfl
@[simp] theorem Regs.loadD_fV : (r.loadD v).fV = r.fV := rfl
@[simp] theorem Regs.loadD_fM : (r.loadD v).fM = r.fM := rfl
@[simp] theorem Regs.loadD_fX : (r.loadD v).fX = r.fX := rfl
@[simp] theorem Regs.loadD_fD : (r.loadD v).fD = r.fD := rfl
@[simp] theorem Regs.loadD_fI : (r.loadD v).fI = r.fI := rfl
@[simp] theorem Regs.loadD_fZ : (r.loadD v).fZ = (v == 0#16) := rfl
@[simp] theorem Regs.loadD_fC : (r.loadD v).fC = r.fC := rfl
@[simp] theorem Regs.loadD_fE : (r.loadD v).fE = r.fE := rfl
end

section
variable (r : Regs) (v : Byte)
@[simp] theorem Regs.loadDb_a : (r.loadDb v).a = r.a := rfl
@[simp] theorem Regs.loadDb_x : (r.loadDb v).x = r.x := rfl
@[simp] theorem Regs.loadDb_y : (r.loadDb v).y = r.y := rfl
@[simp] theorem Regs.loadDb_db : (r.loadDb v).db = v := rfl
@[simp] theorem Regs.loadDb_d : (r.loadDb v).d = r.d := rfl
@[simp] theorem Regs.loadDb_pb : (r.loadDb v).pb = r.pb := rfl
@[simp] theorem Regs.loadDb_pc : (r.loadDb v).pc = r.pc := rfl
@[simp] theorem Regs.loadDb_s : (r.loadDb v).s = r.s := rfl
@[simp] theorem Regs.loadDb_fN : (r.loadDb v).fN = v.msb := rfl
@[simp] theorem Regs.loadDb_fV : (r.loadDb v).fV = r.fV := rfl
@[simp] theorem Regs.loadDb_fM : (r.loadDb v).fM = r.fM := rfl
@[simp] theorem Regs.loadDb_fX : (r.loadDb v).fX = r.fX := rfl
@[simp] theorem Regs.loadDb_fD : (r.loadDb v).fD = r.fD := rfl
@[simp] theorem Regs.loadDb_fI : (r.loadDb v).fI = r.fI := rfl
@[simp] theorem Regs.loadDb_fZ : (r.loadDb v).fZ = (v == 0#8) := rfl
@[simp] theorem Regs.loadDb_fC : (r.loadDb v).fC = r.fC := rfl
@[simp] theorem Regs.loadDb_fE : (r.loadDb v).fE = r.fE := rfl
end

section
variable (r : Regs) {n : Nat} (o : AluOut n)
@[simp] theorem Regs.putSum_a : (r.putSum o).a = putLow r.a o.res := rfl
@[simp] theorem Regs.putSum_x : (r.putSum o).x = r.x := rfl
@[simp] theorem Regs.putSum_y : (r.putSum o).y = r.y := rfl
@[simp] theorem Regs.putSum_db : (r.putSum o).db = r.db := rfl
@[simp] theorem Regs.putSum_d : (r.putSum o).d = r.d := rfl
@[simp] theorem Regs.putSum_pb : (r.putSum o).pb = r.pb := rfl
@[simp] theorem Regs.putSum_pc : (r.putSum o).pc = r.pc := rfl
@[simp] theorem Regs.putSum_s : (r.putSum o).s = r.s := rfl
@[simp] theorem Regs.putSum_fN : (r.putSum o).fN = o.res.msb := rfl
@[simp] theorem Regs.putSum_fV : (r.putSum o).fV = o.v := rfl
@[simp] theorem Regs.putSum_fM : (r.putSum o).fM = r.fM := rfl
@[simp] theorem Regs.putSum_fX : (r.putSum o).fX = r.fX := rfl
@[simp] theorem Regs.putSum_fD : (r.putSum o).fD = r.fD := rfl
@[simp] theorem Regs.putSum_fI : (r.putSum o).fI = r.fI := rfl
@[simp] theorem Regs.putSum_fZ : (r.putSum o).fZ = (o.res == 0#n) := rfl
@[simp] theorem Regs.putSum_fC : (r.putSum o).fC = o.c := rfl
@[simp] theorem Regs.putSum_fE : (r.putSum o).fE = r.fE := rfl
end

section
variable (r : Regs) (o : CompareOut)
@[simp] theorem Regs.putCompare_a : (r.putCompare o).a = r.a := rfl
@[simp] theorem Regs.putCompare_x : (r.putCompare o).x = r.x := rfl
@[simp] theorem Regs.putCompare_y : (r.putCompare o).y = r.y := rfl
@[simp] theorem Regs.putCompare_db : (r.putCompare o).db = r.db := rfl
@[simp] theorem Regs.putCompare_d : (r.putCompare o).d = r.d := rfl
@[simp] theorem Regs.putCompare_pb : (r.putCompare o).pb = r.pb := rfl
@[simp] theorem Regs.putCompare_pc : (r.putCompare o).pc = r.pc := rfl
@[simp] theorem Regs.putCompare_s : (r.putCompare o).s = r.s := rfl
@[simp] theorem Regs.putCompare_fN : (r.putCompare o).fN = o.n := rfl
@[simp] theorem Regs.putCompare_fV : (r.putCompare o).fV = r.fV := rfl
@[simp] theorem Regs.putCompare_fM : (r.putCompare o).fM = r.fM := rfl
@[simp] theorem Regs.putCompare_fX : (r.putCompare o).fX = r.fX := rfl
@[simp] theorem Regs.putCompare_fD : (r.putCompare o).fD = r.fD := rfl
@[simp] theorem Regs.putCompare_fI : (r.putCompare o).fI = r.fI := rfl
@[simp] theorem Regs.putCompare_fZ : (r.putCompare o).fZ = o.z := rfl
@[simp] theorem Regs.putCompare_fC : (r.putCompare o).fC = o.c := rfl
@[simp] theorem Regs.putCompare_fE : (r.putCompare o).fE = r.fE := rfl
end

section
variable (r : Regs)
@[simp] theorem Regs.exchange_a : (r.exchange).a = word (lo8 r.a) (hi8 r.a) := rfl
@[simp] theorem Regs.exchange_x : (r.exchange).x = r.x := rfl
@[simp] theorem Regs.exchange_y : (r.exchange).y = r.y := rfl
@[simp] theorem Regs.exchange_db : (r.exchange).db = r.db := rfl
@[simp] theorem Regs.exchange_d : (r.exchange).d = r.d := rfl
@[simp] theorem Regs.exchange_pb : (r.exchange).pb = r.pb := rfl
@[simp] theorem Regs.exchange_pc : (r.exchange).pc = r.pc := rfl
@[simp] theorem Regs.exchange_s : (r.exchange).s = r.s := rfl
@[simp] theorem Regs.exchange_fN : (r.exchange).fN = (hi8 r.a).msb := rfl
@[simp] theorem Regs.exchange_fV : (r.exchange).fV = r.fV := rfl
@[simp] theorem Regs.exchange_fM : (r.exchange).fM = r.fM := rfl
@[simp] theorem Regs.exchange_fX : (r.exchange).fX = r.fX := rfl
@[simp] theorem Regs.exchange_fD : (r.exchange).fD = r.fD := rfl
@[simp] theorem Regs.exchange_fI : (r.exchange).fI = r.fI := rfl
@[simp] theorem Regs.exchange_fZ : (r.exchange).fZ = (hi8 r.a == 0#8) := rfl
@[simp] theorem Regs.exchange_fC : (r.exchange).fC = r.fC := rfl
@[simp] theorem Regs.exchange_fE : (r.exchange).fE = r.fE := rfl
end

end Sys2Proof.Machine
end

