-- ==== Sys2Proof/Laws/Run.lean ====
section
/-! SUPPORT. What the run of a bus program can do (42_dispatch.md R212): its equations, where it ends, the register
files it passes through, the memory it leaves, and the bridge from `exec` to the run of a dispatch-table entry. -/

namespace Sys2Proof.Machine

/-! ## The run of each row -/

theorem Prog.run_read (src : Source) (a : Addr) (r : Regs) (k : Byte → Prog) (code : List Byte) (s : State) :
    (Prog.read src a r k).run code s =
      (k (s.answer src a code)).run (src.rest code) ((s.cycRead a r).goOn.supply (s.answer src a code)).consume := rfl

theorem Prog.run_readLast (src : Source) (a : Addr) (r : Regs) (wb : Option (Byte → Except Fault Regs))
    (code : List Byte) (s : State) : (Prog.readLast src a r wb).run code s =
      (((s.cycRead a r).finish wb.isSome).supply (s.answer src a code)).settle wb (s.answer src a code) := rfl

theorem Prog.run_write (a : Addr) (v : Byte) (r : Regs) (k : Prog) (code : List Byte) (s : State) :
    (Prog.write a v r k).run code s = k.run code (s.cycWrite a v r).goOn.store := rfl

theorem Prog.run_writeLast (a : Addr) (v : Byte) (r : Regs) (code : List Byte) (s : State) :
    (Prog.writeLast a v r).run code s = ((s.cycWrite a v r).finish false).store := rfl

theorem Prog.run_idle (r : Regs) (k : Prog) (code : List Byte) (s : State) :
    (Prog.idle r k).run code s = k.run code (s.cycIdle r).goOn := rfl

theorem Prog.run_idleLast (r : Regs) (code : List Byte) (s : State) :
    (Prog.idleLast r).run code s = (s.cycIdle r).finish false := rfl

@[simp] theorem Source.rest_stream (code : List Byte) : Source.stream.rest code = code.tail := rfl
@[simp] theorem Source.rest_data (code : List Byte) : Source.data.rest code = code := rfl

/-- A data Read is answered from the memory. -/
@[simp] theorem State.answer_data (s : State) (a : Addr) (code : List Byte) :
    s.answer .data a code = s.mem.get a.toNat := by
  cases code <;> rfl

/-- An instruction-stream Read beyond the instruction's own bytes is answered from the memory. -/
@[simp] theorem State.answer_stream_nil (s : State) (a : Addr) : s.answer .stream a [] = s.mem.get a.toNat := rfl

/-- An instruction-stream Read is answered with the instruction's own next byte where the instruction has not written
that address. -/
theorem State.answer_stream (s : State) (a : Addr) (b : Byte) (code : List Byte)
    (h : s.trace.any (BusCycle.writesTo a) = false) : s.answer .stream a (b :: code) = b := by
  simp [State.answer, h]

@[simp] theorem BusCycle.writesTo_read (a b : Addr) : BusCycle.writesTo a (.read b) = false := rfl
@[simp] theorem BusCycle.writesTo_internal (a : Addr) : BusCycle.writesTo a .internal = false := rfl
@[simp] theorem BusCycle.writesTo_write (a b : Addr) (v : Byte) :
    BusCycle.writesTo a (.write b v) = (a == b) := rfl

/-- The write-back in an equation the simplifier uses. -/
@[simp] theorem State.settle_none (s : State) (b : Byte) : s.settle none b = s := rfl

@[simp] theorem State.settle_some (s : State) (f : Byte → Except Fault Regs) (b : Byte) : s.settle (some f) b =
    match f b with
    | .ok r => { s with regs := r, wb := none }
    | .error e => s.raise e := rfl

/-! ## What a run leaves alone -/

/-- A field that no row changes, no run changes. -/
theorem Prog.run_field {α : Type} (f : State → α)
    (hr : ∀ s a r, f (State.cycRead s a r) = f s) (hw : ∀ s a v r, f (State.cycWrite s a v r) = f s)
    (hi : ∀ s r, f (State.cycIdle s r) = f s) (hg : ∀ s, f (State.goOn s) = f s) (hf : ∀ s d, f (State.finish s d) = f s)
    (hs : ∀ s b, f (State.supply s b) = f s) (hm : ∀ s, f (State.store s) = f s)
    (hc : ∀ s, f (State.consume s) = f s) (hx : ∀ (s : State) r, f { s with regs := r, wb := none } = f s)
    (he : ∀ s e, f (State.raise s e) = f s) (p : Prog) (code : List Byte) (s : State) : f (p.run code s) = f s := by
  induction p generalizing code s with
  | read src a r k ih => rw [Prog.run_read, ih, hc, hs, hg, hr]
  | readLast src a r wb =>
    rw [Prog.run_readLast]
    cases wb with
    | none => rw [State.settle_none, hs, hf, hr]
    | some g =>
      rw [State.settle_some]
      split
      · rw [hx, hs, hf, hr]
      · rw [he, hs, hf, hr]
  | write a v r k ih => rw [Prog.run_write, ih, hm, hg, hw]
  | writeLast a v r => rw [Prog.run_writeLast, hm, hf, hw]
  | idle r k ih => rw [Prog.run_idle, ih, hg, hi]
  | idleLast r => rw [Prog.run_idleLast, hf, hi]

/-- No run changes `IMPL_SET`. -/
@[simp] theorem Prog.run_implSet (p : Prog) (code : List Byte) (s : State) : (p.run code s).implSet = s.implSet :=
  Prog.run_field State.implSet (fun _ _ _ => rfl) (fun _ _ _ _ => rfl) (fun _ _ => rfl) (fun _ => rfl)
    (fun _ _ => rfl) (fun _ _ => rfl) (fun _ => rfl) (fun _ => State.consume_implSet _) (fun _ _ => rfl)
    (fun _ _ => rfl) p code s

/-- No run changes whether `reset` was called. -/
@[simp] theorem Prog.run_launched (p : Prog) (code : List Byte) (s : State) :
    (p.run code s).launched = s.launched :=
  Prog.run_field State.launched (fun _ _ _ => rfl) (fun _ _ _ _ => rfl) (fun _ _ => rfl) (fun _ => rfl)
    (fun _ _ => rfl) (fun _ _ => rfl) (fun _ => rfl) (fun _ => State.consume_launched _) (fun _ _ => rfl)
    (fun _ _ => rfl) p code s

/-- A run remembers the opcode, PC0 and the register file the instruction began with. -/
theorem Prog.run_latches (p : Prog) (code : List Byte) (s : State) :
    ((p.run code s).lat.op, (p.run code s).lat.pc0, (p.run code s).lat.base) = (s.lat.op, s.lat.pc0, s.lat.base) :=
  Prog.run_field (fun s => (s.lat.op, s.lat.pc0, s.lat.base)) (fun _ _ _ => rfl) (fun _ _ _ _ => rfl)
    (fun _ _ => rfl) (fun _ => rfl) (fun _ _ => rfl) (fun _ _ => rfl) (fun _ => rfl)
    (fun s => by simp only [State.consume]; split <;> rfl) (fun _ _ => rfl) (fun _ _ => rfl) p code s

@[simp] theorem Prog.run_base (p : Prog) (code : List Byte) (s : State) : (p.run code s).lat.base = s.lat.base :=
  congrArg (fun q : Byte × Word × Regs => q.2.2) (Prog.run_latches p code s)

/-- A run ends at a boundary with nothing pending, or halted. -/
theorem Prog.run_ends (p : Prog) (code : List Byte) (s : State) :
    ((p.run code s).cont = .fetch ∧ (p.run code s).wb = none) ∨ ∃ f, (p.run code s).cont = .halted f := by
  induction p generalizing code s with
  | read src a r k ih => exact ih _ _ _
  | readLast src a r wb =>
    rw [Prog.run_readLast]
    cases wb with
    | none => exact .inl ⟨rfl, rfl⟩
    | some g =>
      rw [State.settle_some]
      split
      · exact .inl ⟨rfl, rfl⟩
      · exact .inr ⟨_, rfl⟩
  | write a v r k ih => exact ih _ _
  | writeLast a v r => exact .inl ⟨rfl, rfl⟩
  | idle r k ih => exact ih _ _
  | idleLast r => exact .inl ⟨rfl, rfl⟩

/-- A run keeps the memory in canonical form. -/
theorem Prog.run_mem_wf (p : Prog) (code : List Byte) (s : State) (h : s.mem.wf = true) :
    (p.run code s).mem.wf = true := by
  induction p generalizing code s with
  | read src a r k ih => exact ih _ _ _ (by simpa using h)
  | readLast src a r wb =>
    rw [Prog.run_readLast]
    cases wb with
    | none => exact h
    | some g => rw [State.settle_some]; split <;> exact h
  | write a v r k ih => exact ih _ _ (Memory.set_wf h _ _)
  | writeLast a v r => exact Memory.set_wf h _ _
  | idle r k ih => exact ih _ _ h
  | idleLast r => exact h

/-- A run appends to the trace, and changes the memory only where the appended part has a Write. -/
theorem Prog.run_trace (p : Prog) (code : List Byte) (s : State) : ∃ tr, (p.run code s).trace = s.trace ++ tr ∧
    ∀ a : Addr, tr.any (BusCycle.writesTo a) = false → (p.run code s).mem.get a.toNat = s.mem.get a.toNat := by
  induction p generalizing code s with
  | read src a r k ih =>
    obtain ⟨tr, h1, h2⟩ := ih (s.answer src a code) (src.rest code)
      ((s.cycRead a r).goOn.supply (s.answer src a code)).consume
    refine ⟨.read a :: tr, by rw [Prog.run_read, h1]; simp, fun b hb => ?_⟩
    rw [Prog.run_read, h2 b (by simpa using hb)]
    simp
  | readLast src a r wb =>
    refine ⟨[.read a], ?_, fun b _ => ?_⟩
    all_goals
      rw [Prog.run_readLast]
      cases wb with
      | none => rfl
      | some g => rw [State.settle_some]; split <;> rfl
  | write a v r k ih =>
    obtain ⟨tr, h1, h2⟩ := ih code (s.cycWrite a v r).goOn.store
    refine ⟨.write a v :: tr, by rw [Prog.run_write, h1]; simp, fun b hb => ?_⟩
    simp only [List.any_cons, BusCycle.writesTo_write, Bool.or_eq_false_iff, beq_eq_false_iff_ne] at hb
    rw [Prog.run_write, h2 b hb.2]
    simpa using Memory.get_set_other s.mem v (fun e => hb.1 (BitVec.eq_of_toNat_eq e))
  | writeLast a v r =>
    refine ⟨[.write a v], by rw [Prog.run_writeLast]; simp, fun b hb => ?_⟩
    simp only [List.any_cons, List.any_nil, Bool.or_false, BusCycle.writesTo_write, beq_eq_false_iff_ne] at hb
    rw [Prog.run_writeLast]
    simpa using Memory.get_set_other s.mem v (fun e => hb (BitVec.eq_of_toNat_eq e))
  | idle r k ih =>
    obtain ⟨tr, h1, h2⟩ := ih code (s.cycIdle r).goOn
    refine ⟨.internal :: tr, by rw [Prog.run_idle, h1]; simp, fun b hb => ?_⟩
    rw [Prog.run_idle, h2 b (by simpa using hb)]
    simp
  | idleLast r => exact ⟨[.internal], by rw [Prog.run_idleLast]; simp, fun b _ => rfl⟩

/-! ## The register files a run passes through -/

/-- Every register file of a program's rows has the property, and so has what its write-back gives. -/
def Prog.AllRegs (P : Regs → Prop) : Prog → Prop
  | .read _ _ r k => P r ∧ ∀ b, (k b).AllRegs P
  | .readLast _ _ r none => P r
  | .readLast _ _ r (some f) => P r ∧ ∀ b q, f b = .ok q → P q
  | .write _ _ r k => P r ∧ k.AllRegs P
  | .writeLast _ _ r => P r
  | .idle r k => P r ∧ k.AllRegs P
  | .idleLast r => P r

/-- Where every register file of the rows has the property, the committed one has it. -/
theorem Prog.run_allRegs {P : Regs → Prop} {p : Prog} (h : p.AllRegs P) (code : List Byte) (s : State) :
    P (p.run code s).regs := by
  induction p generalizing code s with
  | read src a r k ih => exact ih _ (h.2 _) _ _
  | readLast src a r wb =>
    rw [Prog.run_readLast]
    cases wb with
    | none => exact h
    | some g =>
      rw [State.settle_some]
      split
      · rename_i q hq
        exact h.2 _ q hq
      · exact h.1
  | write a v r k ih => exact ih h.2 _ _
  | writeLast a v r => exact h
  | idle r k ih => exact ih h.2 _ _
  | idleLast r => exact h

/-- The rows that are left of a program have only register files of the program. -/
theorem Prog.after_allRegs {P : Regs → Prop} {p q : Prog} (h : p.AllRegs P) {n : Nat} {bs : List Byte}
    (hq : p.after n bs = some q) : q.AllRegs P := by
  induction p generalizing n bs with
  | read src a r k ih =>
    cases n with
    | zero => cases hq; exact h
    | succ n =>
      cases bs with
      | nil => cases hq
      | cons b bs => exact ih b (h.2 b) hq
  | readLast src a r wb => cases n with | zero => cases hq; exact h | succ n => cases hq
  | write a v r k ih => cases n with | zero => cases hq; exact h | succ n => exact ih h.2 hq
  | writeLast a v r => cases n with | zero => cases hq; exact h | succ n => cases hq
  | idle r k ih => cases n with | zero => cases hq; exact h | succ n => exact ih h.2 hq
  | idleLast r => cases n with | zero => cases hq; exact h | succ n => cases hq

/-- The deferred write-back of a program gives only register files with the property. -/
theorem Prog.deferred_allRegs {P : Regs → Prop} {p : Prog} (h : p.AllRegs P) {bs : List Byte}
    {f : Byte → Except Fault Regs} (hf : p.deferred bs = some f) {b : Byte} {r : Regs} (hr : f b = .ok r) : P r := by
  induction p generalizing bs with
  | read src a q k ih =>
    cases bs with
    | nil => cases hf
    | cons c bs => exact ih c (h.2 c) hf
  | readLast src a q wb =>
    simp only [Prog.deferred] at hf
    subst hf
    exact h.2 b r hr
  | write a v q k ih => exact ih h.2 hf
  | writeLast a v q => cases hf
  | idle q k ih => exact ih h.2 hf
  | idleLast q => cases hf

/-- The first row's cycle leaves a register file with the property. -/
theorem State.perform_allRegs {P : Regs → Prop} {p : Prog} (h : p.AllRegs P) (s : State) : P (s.perform p).2.regs := by
  cases p with
  | read src a r k => exact h.1
  | readLast src a r wb => cases wb with | none => exact h | some f => exact h.1
  | write a v r k => exact h.1
  | writeLast a v r => exact h
  | idle r k => exact h.1
  | idleLast r => exact h

/-! ## From `exec` to the run of a dispatch-table entry -/

/-- Every instruction is the run of its dispatch-table entry, or is rejected where it has none. -/
theorem exec_eq (i : Instr) (s : State) : exec i s =
    match progOf i.opcode with
    | some p => runInstr i.opcode p i.operandBytes s
    | none => .next (s.rejectOpcode i.opcode) := by
  cases i <;> (dsimp only [Instr.opcode]; rfl)

/-- A dispatched instruction answers a next state. -/
theorem runInstr_of_dispatches {op : Byte} {s : State} (h : s.dispatches op = true) (p : Regs → Prog)
    (code : List Byte) : runInstr op p code s = .next ((p s.regs.incPc).run code (s.fetchOpcode op)) := by
  simp only [runInstr, h, if_true]; rfl

/-- An instruction outside `IMPL_SET` is rejected. -/
theorem runInstr_of_not_dispatches {op : Byte} {s : State} (h : s.dispatches op = false) (p : Regs → Prog)
    (code : List Byte) : runInstr op p code s = .next (s.rejectOpcode op) := by
  simp [runInstr, h]

/-- What an instruction answers: the run of its entry, or the state in which its opcode is rejected. -/
theorem exec_cases {i : Instr} {s t : State} (h : exec i s = .next t) :
    (∃ p, progOf i.opcode = some p ∧ s.dispatches i.opcode = true ∧
      t = (p s.regs.incPc).run i.operandBytes (s.fetchOpcode i.opcode)) ∨ t = s.rejectOpcode i.opcode := by
  rw [exec_eq] at h
  split at h
  · rename_i p hp
    by_cases hd : s.dispatches i.opcode = true
    · rw [runInstr_of_dispatches hd] at h
      exact .inl ⟨p, hp, hd, (Host.Outcome.next.inj h).symm⟩
    · rw [runInstr_of_not_dispatches (by simpa using hd)] at h
      exact .inr (Host.Outcome.next.inj h).symm
  · exact .inr (Host.Outcome.next.inj h).symm

/-- No instruction's meaning stops. -/
theorem exec_next (i : Instr) (s : State) : ∃ t, exec i s = .next t := by
  rw [exec_eq]
  split
  · simp only [runInstr]
    split <;> exact ⟨_, rfl⟩
  · exact ⟨_, rfl⟩

end Sys2Proof.Machine
end

