-- ==== Sys2Proof/Laws/Engine.lean ====
section
/-! SUPPORT. The engine call by call: what `advance()` is for each continuation, that a block which was never reset
refuses every call, that a launch does not depend on what was there before its reset, and what a `registers()` snapshot
between two calls can show (42_dispatch.md R201, R211; 70_reset_and_hazards.md R494). -/

namespace Sys2Proof.Machine

/-! ## `advance()` -/

section
variable {s : State}

theorem State.advance_fetch (hl : s.launched = true) (h : s.cont = .fetch) : s.advance = s.fetchStep := by
  simp [State.advance, hl, h]

theorem State.advance_decode (hl : s.launched = true) (h : s.cont = .decode) : s.advance = s.decodeStep := by
  simp [State.advance, hl, h]

theorem State.advance_step {op : Byte} {k : Nat} (hl : s.launched = true) (h : s.cont = .step op k) :
    s.advance = s.instrStep op k := by
  simp [State.advance, hl, h]

theorem State.advance_halted {f : Fault} (hl : s.launched = true) (h : s.cont = .halted f) :
    s.advance = (.fault f, s) := by
  simp [State.advance, hl, h]

/-- Before the first reset a call is refused and changes nothing. -/
theorem State.advance_refused (h : s.launched = false) : s.advance = (.refused .advanceBeforeReset, s) := by
  simp [State.advance, h]

theorem State.tick_refused (h : s.launched = false) : s.tick = s := by
  simp [State.tick, State.advance_refused h, State.serve]

/-- No number of calls leads out of the state before the first reset. -/
theorem State.ticks_refused (h : s.launched = false) (n : Nat) : s.ticks n = s := by
  induction n with
  | zero => rfl
  | succ n ih => rw [State.ticks, State.tick_refused h, ih]

end

/-! ## Launches -/

/-- A launch is the same whatever the block held before its reset (R490, R494). -/
theorem powerOn_resetTo (u : State) (v : Word) (m0 : Memory) (set : BitVec 256) (dr : ResetDraw) (bd : BusDraw) :
    (State.powerOn u m0 set).resetTo v dr bd = launch v m0 set dr bd := rfl

/-- A block that was never reset has no run: it stops at once (R508; log entry 21). -/
theorem runTo_refused {s : State} (h : s.launched = false) (e : Addr) (n : Nat) :
    runTo e n s = .stopped .advanceBeforeReset := by
  have hs : s.settled e = some (.stopped .advanceBeforeReset) := by simp [State.settled, h]
  cases n <;> simp [runTo, hs]

/-! ## `registers()` between two calls -/

section
variable {s : State} {op : Byte} {n : Nat}

theorem State.registers_step (h : s.cont = .step op n) : s.registers = s.midRegs op := by
  simp [State.registers, h]

/-- A register is shown from the register file after the opcode fetch or after a row of the instruction. -/
theorem State.midRow_mem (s : State) (op : Byte) (k : Nat) : s.midRow op k ∈ s.rowRegs op := by
  rw [State.midRow, List.getD_eq_getElem?_getD]
  cases h : (s.rowRegs op)[Config.midChoice s.moment k]? with
  | none => exact List.mem_cons_self
  | some r => exact List.mem_of_getElem? h

/-- What every row of the instruction leaves as it was is shown as it was. -/
theorem State.midRow_old {α : Type} (f : Regs → α) (h : ∀ r ∈ s.rowRegs op, f r = f s.lat.base) (k : Nat) :
    f (s.midRow op k) = f s.lat.base := h _ (s.midRow_mem op k)

/-- PC, where the deferred write-back writes it, is shown as stored. -/
theorem State.midRegs_pc (h : wbWritersPC.contains op = true) : (s.midRegs op).pc = s.regs.pc := by
  exact if_pos h

/-- RTL: its rows write S alone, so PB and, with PC as the rows leave it, PC hold their old values until the next opcode
fetch. -/
theorem State.registers_rtl (h : s.cont = .step 0x6B#8 n) :
    s.registers.pc = s.regs.pc ∧ s.registers.pb = s.lat.base.pb ∧ s.registers.a = s.lat.base.a := by
  have hr : ∀ r ∈ s.rowRegs 0x6B#8, r.pb = s.lat.base.pb ∧ r.a = s.lat.base.a := by
    have hp : progOf 0x6B#8 = some progRtl := rfl
    rw [State.rowRegs, hp]
    rcases hb : s.lat.bytes with _ | ⟨b1, _ | ⟨b2, bs⟩⟩ <;>
      simp [progRtl, returnLong, idle, pull, pullLast, Prog.rowRegs]
  rw [State.registers_step h]
  exact ⟨State.midRegs_pc (by decide), State.midRow_old (·.pb) (fun r m => (hr r m).1) 6,
    State.midRow_old (·.a) (fun r m => (hr r m).2) 1⟩

end

end Sys2Proof.Machine
end

