-- ==== Sys2Proof/Laws/Modes.lean ====
section
/-! SUPPORT. What the addressing-mode resolver and the data phases do (41_addressing.md): the register files they pass
through, and the result of a run as registers, memory and trace, with one lemma for each building block. -/

namespace Sys2Proof.Machine

/-- A list of two operand bytes. -/
theorem operands_two {l : List Byte} (h : l.length = 2) : ∃ a b, l = [a, b] := by
  match l, h with
  | [a, b], _ => exact ⟨a, b, rfl⟩

/-- A list of three operand bytes. -/
theorem operands_three {l : List Byte} (h : l.length = 3) : ∃ a b c, l = [a, b, c] := by
  match l, h with
  | [a, b, c], _ => exact ⟨a, b, c, rfl⟩

/-! ## Register files -/

theorem fetchByte_allRegs {P : Regs → Prop} {r : Regs} {k : Byte → Regs → Prog} (h : P r.incPc)
    (hk : ∀ b, (k b r.incPc).AllRegs P) : (fetchByte r k).AllRegs P := ⟨h, hk⟩

theorem idleIf_allRegs {P : Regs → Prop} {c : Bool} {r : Regs} {k : Prog} (h : P r) (hk : k.AllRegs P) :
    (idleIf c r k).AllRegs P := by
  unfold idleIf; split
  · exact ⟨h, hk⟩
  · exact hk

theorem fetchWord_allRegs {P : Regs → Prop} (hpc : ∀ q, P q → P q.incPc) {r : Regs} {k : Word → Regs → Prog} (h : P r)
    (hk : ∀ w q, P q → (k w q).AllRegs P) : (fetchWord r k).AllRegs P :=
  ⟨hpc _ h, fun _ => ⟨hpc _ (hpc _ h), fun _ => hk _ _ (hpc _ (hpc _ h))⟩⟩

theorem fetchDirect_allRegs {P : Regs → Prop} (hpc : ∀ q, P q → P q.incPc) {r : Regs} {k : Byte → Regs → Prog} (h : P r)
    (hk : ∀ b q, P q → (k b q).AllRegs P) : (fetchDirect r k).AllRegs P :=
  ⟨hpc _ h, fun _ => idleIf_allRegs (hpc _ h) (hk _ _ (hpc _ h))⟩

theorem readPtr_allRegs {P : Regs → Prop} {p : Word} {r : Regs} {k : Word → Prog} (h : P r)
    (hk : ∀ w, (k w).AllRegs P) : (readPtr p r k).AllRegs P := ⟨h, fun _ => ⟨h, fun _ => hk _⟩⟩

theorem readPtrLong_allRegs {P : Regs → Prop} {p : Word} {r : Regs} {k : Byte → Word → Prog} (h : P r)
    (hk : ∀ b w, (k b w).AllRegs P) : (readPtrLong p r k).AllRegs P :=
  readPtr_allRegs h fun _ => ⟨h, fun _ => hk _ _⟩

/-- The address cycles of a mode change no register but PC. -/
theorem resolve_allRegs {P : Regs → Prop} (hpc : ∀ q, P q → P q.incPc) {m : Mode} {c : AccessClass} {r : Regs}
    {k : EA → Regs → Prog} (h : P r) (hk : ∀ ea q, P q → (k ea q).AllRegs P) : (resolve m c r k).AllRegs P := by
  cases m <;> simp only [resolve]
  case dp => exact fetchDirect_allRegs hpc h fun _ _ hq => hk _ _ hq
  case dpX => exact fetchDirect_allRegs hpc h fun _ _ hq => ⟨hq, hk _ _ hq⟩
  case dpY => exact fetchDirect_allRegs hpc h fun _ _ hq => ⟨hq, hk _ _ hq⟩
  case dpInd => exact fetchDirect_allRegs hpc h fun _ _ hq => readPtr_allRegs hq fun _ => hk _ _ hq
  case dpXInd => exact fetchDirect_allRegs hpc h fun _ _ hq => ⟨hq, readPtr_allRegs hq fun _ => hk _ _ hq⟩
  case dpIndY =>
    exact fetchDirect_allRegs hpc h fun _ _ hq => readPtr_allRegs hq fun _ => idleIf_allRegs hq (hk _ _ hq)
  case dpLong => exact fetchDirect_allRegs hpc h fun _ _ hq => readPtrLong_allRegs hq fun _ _ => hk _ _ hq
  case dpLongY => exact fetchDirect_allRegs hpc h fun _ _ hq => readPtrLong_allRegs hq fun _ _ => hk _ _ hq
  case abs => exact fetchWord_allRegs hpc h fun _ _ hq => hk _ _ hq
  case absX => exact fetchWord_allRegs hpc h fun _ _ hq => idleIf_allRegs hq (hk _ _ hq)
  case absY => exact fetchWord_allRegs hpc h fun _ _ hq => idleIf_allRegs hq (hk _ _ hq)
  case long => exact fetchWord_allRegs hpc h fun _ _ hq => ⟨hpc _ hq, fun _ => hk _ _ (hpc _ hq)⟩
  case longX => exact fetchWord_allRegs hpc h fun _ _ hq => ⟨hpc _ hq, fun _ => hk _ _ (hpc _ hq)⟩
  case sr => exact ⟨hpc _ h, fun _ => ⟨hpc _ h, hk _ _ (hpc _ h)⟩⟩
  case srIndY =>
    exact ⟨hpc _ h, fun _ => ⟨hpc _ h, readPtr_allRegs (hpc _ h) fun _ => ⟨hpc _ h, hk _ _ (hpc _ h)⟩⟩⟩

/-- What a read-class operation must keep, at the width in force. -/
def ReadOp.Keeps (P : Regs → Prop) (w8 : Regs → Bool) (op : ReadOp) : Prop :=
  (∀ b q q', P q → w8 q = true → op 8 b q = .ok q' → P q') ∧
  (∀ b q q', P q → w8 q = false → op 16 b q = .ok q' → P q')

theorem readPhase_allRegs {P : Regs → Prop} {w8 : Regs → Bool} {op : ReadOp} (hop : op.Keeps P w8) {ea : EA} {r : Regs}
    (h : P r) : (readPhase (w8 r) ea r op).AllRegs P := by
  unfold readPhase
  cases hw : w8 r
  · exact ⟨h, fun _ => ⟨h, fun b q hq => hop.2 _ _ _ h hw hq⟩⟩
  · exact ⟨h, fun b q hq => hop.1 _ _ _ h hw hq⟩

theorem immPhase_allRegs {P : Regs → Prop} (hpc : ∀ q, P q → P q.incPc) {w8 : Regs → Bool}
    (hw8 : ∀ q : Regs, w8 q.incPc = w8 q) {op : ReadOp} (hop : op.Keeps P w8) {r : Regs} (h : P r) :
    (immPhase (w8 r) r op).AllRegs P := by
  unfold immPhase
  have h1 := hpc _ h
  have h2 := hpc _ h1
  cases hw : w8 r
  · exact ⟨h1, fun _ => ⟨h2, fun b q hq => hop.2 _ _ _ h2 (by rw [hw8, hw8, hw]) hq⟩⟩
  · exact ⟨h1, fun b q hq => hop.1 _ _ _ h1 (by rw [hw8, hw]) hq⟩

/-- A read-class instruction passes only through register files that have a property its operation keeps. -/
theorem readM_allRegs {P : Regs → Prop} (hpc : ∀ q, P q → P q.incPc) {op : ReadOp} (hop : op.Keeps P (·.fM)) {m : Mode}
    {r : Regs} (h : P r) : (readM m r op).AllRegs P :=
  resolve_allRegs hpc h fun _ _ hq => readPhase_allRegs hop hq

theorem readX_allRegs {P : Regs → Prop} (hpc : ∀ q, P q → P q.incPc) {op : ReadOp} (hop : op.Keeps P (·.fX)) {m : Mode}
    {r : Regs} (h : P r) : (readX m r op).AllRegs P :=
  resolve_allRegs hpc h fun _ _ hq => readPhase_allRegs hop hq

theorem immM_allRegs {P : Regs → Prop} (hpc : ∀ q, P q → P q.incPc) {op : ReadOp} (hop : op.Keeps P (·.fM)) {r : Regs}
    (h : P r) : (immM r op).AllRegs P := immPhase_allRegs hpc (fun _ => rfl) hop h

theorem immX_allRegs {P : Regs → Prop} (hpc : ∀ q, P q → P q.incPc) {op : ReadOp} (hop : op.Keeps P (·.fX)) {r : Regs}
    (h : P r) : (immX r op).AllRegs P := immPhase_allRegs hpc (fun _ => rfl) hop h

theorem writePhase_allRegs {P : Regs → Prop} {w8 : Bool} {ea : EA} {v : Word} {r : Regs} (h : P r) :
    (writePhase w8 ea v r).AllRegs P := by
  unfold writePhase; cases w8 <;> simp [Prog.AllRegs, h]

theorem storeM_allRegs {P : Regs → Prop} (hpc : ∀ q, P q → P q.incPc) {m : Mode} {r : Regs} {v : Regs → Word} (h : P r) :
    (storeM m r v).AllRegs P := resolve_allRegs hpc h fun _ _ hq => writePhase_allRegs hq

theorem storeX_allRegs {P : Regs → Prop} (hpc : ∀ q, P q → P q.incPc) {m : Mode} {r : Regs} {v : Regs → Word} (h : P r) :
    (storeX m r v).AllRegs P := resolve_allRegs hpc h fun _ _ hq => writePhase_allRegs hq

/-- A read-modify-write instruction passes only through register files that have a property its flags keep. -/
theorem rmwM_allRegs {P : Regs → Prop} (hpc : ∀ q, P q → P q.incPc) {f : RmwOp} (hf : ∀ n v q, P q → P (f n v q).2)
    {m : Mode} {r : Regs} (h : P r) : (rmwM m r f).AllRegs P := by
  refine resolve_allRegs hpc h fun ea q hq => ?_
  unfold rmwPhase
  cases q.fM
  · exact ⟨hq, fun _ => ⟨hq, fun _ => ⟨hf _ _ _ hq, hf _ _ _ hq, hf _ _ _ hq⟩⟩⟩
  · exact ⟨hq, fun _ => ⟨hf _ _ _ hq, hf _ _ _ hq⟩⟩

/-! ## Registers, memory and trace after a run -/

/-- The run of a program gives these registers, this memory and this trace at a boundary with nothing pending. -/
structure Prog.Yields (p : Prog) (code : List Byte) (s : State) (r : Regs) (m : Memory) (tr : List BusCycle) :
    Prop where
  regs : (p.run code s).regs = r
  mem : (p.run code s).mem = m
  trace : (p.run code s).trace = tr
  cont : (p.run code s).cont = .fetch
  wb : (p.run code s).wb = none

/-- No Write so far: the instruction's own bytes are as they were fetched. -/
def State.Quiet (s : State) : Prop := ∀ a, s.trace.any (BusCycle.writesTo a) = false

theorem State.quiet_append {s t : State} {tr : List BusCycle} (h : s.Quiet) (ht : t.trace = s.trace ++ tr)
    (hn : ∀ a, tr.any (BusCycle.writesTo a) = false) : t.Quiet := fun a => by
  rw [ht, List.any_append, h a, hn a]; rfl

section
variable {r : Regs} {s : State} {R : Regs} {M : Memory} {TR : List BusCycle} {code : List Byte}

theorem fetchByte_yields {b : Byte} {k : Byte → Regs → Prog} (hq : s.Quiet)
    (hk : ∀ t : State, t.mem = s.mem → t.trace = s.trace ++ [.read r.codeAddr] → t.Quiet →
      (k b r.incPc).Yields code t R M TR) : (fetchByte r k).Yields (b :: code) s R M TR := by
  have h := hk (((s.cycRead r.codeAddr r.incPc).goOn.supply b).consume) (by simp) (by simp)
    (State.quiet_append (tr := [.read r.codeAddr]) hq (by simp) (fun a => rfl))
  have e : (fetchByte r k).run (b :: code) s =
      (k b r.incPc).run code (((s.cycRead r.codeAddr r.incPc).goOn.supply b).consume) := by
    simp [fetchByte, Prog.run_read, State.answer_stream, hq r.codeAddr]
  exact ⟨by rw [e]; exact h.regs, by rw [e]; exact h.mem, by rw [e]; exact h.trace, by rw [e]; exact h.cont,
    by rw [e]; exact h.wb⟩

theorem fetchWord_yields {lo hi : Byte} {k : Word → Regs → Prog} (hq : s.Quiet)
    (hk : ∀ t : State, t.mem = s.mem → t.trace = s.trace ++ [.read r.codeAddr, .read r.incPc.codeAddr] → t.Quiet →
      (k (word hi lo) r.incPc.incPc).Yields code t R M TR) : (fetchWord r k).Yields (lo :: hi :: code) s R M TR :=
  fetchByte_yields hq fun t h1 h2 hq1 => fetchByte_yields hq1 fun u h3 h4 hq2 =>
    hk u (h3.trans h1) (by rw [h4, h2]; simp) hq2

theorem readByte_yields {a : Addr} {k : Byte → Prog}
    (hk : ∀ t : State, t.mem = s.mem → t.trace = s.trace ++ [.read a] → (k (s.readMem a)).Yields code t R M TR) :
    (readByte a r k).Yields code s R M TR := by
  have h := hk (((s.cycRead a r).goOn.supply (s.readMem a)).consume) (by simp) (by simp)
  have e : (readByte a r k).run code s =
      (k (s.readMem a)).run code (((s.cycRead a r).goOn.supply (s.readMem a)).consume) := by
    simp [readByte, Prog.run_read, State.readMem]
  exact ⟨by rw [e]; exact h.regs, by rw [e]; exact h.mem, by rw [e]; exact h.trace, by rw [e]; exact h.cont,
    by rw [e]; exact h.wb⟩

theorem idle_yields {k : Prog} (hk : ∀ t : State, t.mem = s.mem → t.trace = s.trace ++ [.internal] →
    k.Yields code t R M TR) : (Prog.idle r k).Yields code s R M TR := by
  have h := hk ((s.cycIdle r).goOn) rfl rfl
  exact ⟨h.regs, h.mem, h.trace, h.cont, h.wb⟩

theorem idleIf_yields {c : Bool} {k : Prog} (hk : ∀ t : State, t.mem = s.mem →
    t.trace = s.trace ++ internalIf c → k.Yields code t R M TR) : (idleIf c r k).Yields code s R M TR := by
  cases c
  · exact hk s rfl (by simp [internalIf])
  · exact idle_yields hk

theorem write_yields {a : Addr} {v : Byte} {k : Prog} (hk : ∀ t : State, t.mem = s.mem.set a.toNat v →
    t.trace = s.trace ++ [.write a v] → k.Yields code t R M TR) : (Prog.write a v r k).Yields code s R M TR := by
  have h := hk ((s.cycWrite a v r).goOn.store) rfl rfl
  exact ⟨h.regs, h.mem, h.trace, h.cont, h.wb⟩

theorem writeLast_yields (a : Addr) (v : Byte) :
    (Prog.writeLast a v r).Yields code s r (s.mem.set a.toNat v) (s.trace ++ [.write a v]) := ⟨rfl, rfl, rfl, rfl, rfl⟩

theorem idleLast_yields : (Prog.idleLast r).Yields code s r s.mem (s.trace ++ [.internal]) := ⟨rfl, rfl, rfl, rfl, rfl⟩

theorem readLast_yields {a : Addr} {f : Byte → Except Fault Regs} (hf : f (s.readMem a) = .ok R) :
    (Prog.readLast .data a r (some f)).Yields code s R s.mem (s.trace ++ [.read a]) := by
  have hf' : f (s.mem.get a.toNat) = .ok R := hf
  constructor <;> simp [Prog.run_readLast, hf']

theorem fetchLast_yields {b : Byte} {f : Byte → Except Fault Regs} (hq : s.Quiet) (hf : f b = .ok R) :
    (Prog.readLast .stream r.codeAddr r.incPc (some f)).Yields (b :: code) s R s.mem
      (s.trace ++ [.read r.codeAddr]) := by
  constructor <;> simp [Prog.run_readLast, State.answer_stream, hq r.codeAddr, hf]

theorem readPtr_yields {p : Word} {k : Word → Prog} (hk : ∀ t : State, t.mem = s.mem →
    t.trace = s.trace ++ readRows 0x00#8 p 2 → (k (s.readWord0 p)).Yields code t R M TR) :
    (readPtr p r k).Yields code s R M TR :=
  readByte_yields fun t h1 h2 => readByte_yields fun u h3 h4 => by
    rw [State.readMem_of_mem h1]
    exact hk u (h3.trans h1) (by rw [h4, h2]; simp [readRows])

theorem readPtrLong_yields {p : Word} {k : Byte → Word → Prog} (hk : ∀ t : State, t.mem = s.mem →
    t.trace = s.trace ++ readRows 0x00#8 p 3 →
      (k (s.readMem (addr 0x00#8 (p + 2#16))) (s.readWord0 p)).Yields code t R M TR) :
    (readPtrLong p r k).Yields code s R M TR :=
  readPtr_yields fun t h1 h2 => readByte_yields fun u h3 h4 => by
    rw [State.readMem_of_mem h1]
    exact hk u (h3.trans h1) (by rw [h4, h2]; simp [readRows])

/-- The number of operand bytes of a mode (R98). -/
def Mode.operands : Mode → Nat
  | .dp | .dpX | .dpY | .dpInd | .dpXInd | .dpIndY | .dpLong | .dpLongY | .sr | .srIndY => 1
  | .abs | .absX | .absY => 2
  | .long | .longX => 3

/-- The fetch of the direct offset and its Internal cycle are the rows 2 and 2a of the direct modes. -/
theorem fetchDirect_yields {b : State} {off : Byte} {k : Byte → Regs → Prog} (hm : s.mem = b.mem)
    (ht : s.trace = b.opcodeRow)
    (hk : ∀ t : State, t.mem = b.mem → t.trace = b.opcodeRow ++ b.directRows →
      (k off { b.regs with pc := b.regs.pc + 2#16 }).Yields code t R M TR) :
    (fetchDirect b.regs.incPc k).Yields (off :: code) s R M TR := by
  have hq : s.Quiet := fun a => by rw [ht]; rfl
  have hpc : b.regs.incPc.incPc = { b.regs with pc := b.regs.pc + 2#16 } := by simp [Regs.incPc, BitVec.add_assoc]
  refine fetchByte_yields hq fun t h1 h2 _ => idleIf_yields fun u h3 h4 => ?_
  rw [hpc]
  refine hk u (by rw [h3, h1, hm]) ?_
  rw [h4, h2, ht]
  simp [State.directRows, State.operandRows, State.operandRow, Regs.codeAddr]

/-- The fetch of a 16-bit operand is rows 2 and 3. -/
theorem fetchWord_rows {b : State} {lo hi : Byte} {k : Word → Regs → Prog} (hm : s.mem = b.mem)
    (ht : s.trace = b.opcodeRow)
    (hk : ∀ t : State, t.mem = b.mem → t.trace = b.opcodeRow ++ b.operandRows 2 → t.Quiet →
      (k (word hi lo) { b.regs with pc := b.regs.pc + 3#16 }).Yields code t R M TR) :
    (fetchWord b.regs.incPc k).Yields (lo :: hi :: code) s R M TR := by
  have hq : s.Quiet := fun a => by rw [ht]; rfl
  have hpc : b.regs.incPc.incPc.incPc = { b.regs with pc := b.regs.pc + 3#16 } := by
    simp [Regs.incPc, BitVec.add_assoc]
  refine fetchWord_yields hq fun t h1 h2 hq1 => ?_
  rw [hpc]
  refine hk t (h1.trans hm) ?_ hq1
  rw [h2, ht]
  simp [State.operandRows, State.operandRow, Regs.codeAddr, BitVec.add_assoc]

/-- The fetch of a 24-bit operand is rows 2 to 4. -/
theorem fetchLong_rows {b : State} {lo hi bank : Byte} {k : Byte → Word → Regs → Prog} (hm : s.mem = b.mem)
    (ht : s.trace = b.opcodeRow)
    (hk : ∀ t : State, t.mem = b.mem → t.trace = b.opcodeRow ++ b.operandRows 3 → t.Quiet →
      (k bank (word hi lo) { b.regs with pc := b.regs.pc + 4#16 }).Yields code t R M TR) :
    (fetchWord b.regs.incPc fun aa r => fetchByte r fun aab r => k aab aa r).Yields (lo :: hi :: bank :: code) s
      R M TR := by
  refine fetchWord_rows hm ht fun t h1 h2 hq => fetchByte_yields hq fun u h3 h4 hq1 => ?_
  have hpc : ({ b.regs with pc := b.regs.pc + 3#16 } : Regs).incPc = { b.regs with pc := b.regs.pc + 4#16 } := by
    simp [Regs.incPc, BitVec.add_assoc]
  rw [hpc]
  refine hk u (h3.trans h1) ?_ hq1
  rw [h4, h2]
  simp [State.operandRows, State.operandRow, Regs.codeAddr]

/-- The resolver's cycles are the address rows of the mode, and its effective address is the mode's. -/
theorem resolve_yields {b : State} {m : Mode} {c : AccessClass} {k : EA → Regs → Prog} (hm : s.mem = b.mem)
    (ht : s.trace = b.opcodeRow) (hlen : code.length = m.operands)
    (hk : ∀ t : State, t.mem = b.mem → t.trace = b.opcodeRow ++ b.addressRows m c code →
      (k (b.effAddr m code) { b.regs with pc := b.regs.pc + BitVec.ofNat 16 (1 + m.operands) }).Yields [] t R M TR) :
    (resolve m c b.regs.incPc k).Yields code s R M TR := by
  have hw : ∀ {t : State} {p : Word}, t.mem = b.mem → t.readWord0 p = b.readWord0 p := fun h => by
    simp only [State.readWord0, State.readMem, h]
  have hb : ∀ {t : State} {a : Addr}, t.mem = b.mem → t.readMem a = b.readMem a := fun h => by
    simp only [State.readMem, h]
  cases m <;> simp only [Mode.operands] at hlen hk <;> simp only [resolve]
  case dp =>
    obtain ⟨off, rfl⟩ := List.length_eq_one_iff.mp hlen
    exact fetchDirect_yields hm ht fun t h1 h2 => hk t h1 h2
  case dpX =>
    obtain ⟨off, rfl⟩ := List.length_eq_one_iff.mp hlen
    exact fetchDirect_yields hm ht fun t h1 h2 => idle_yields fun u h3 h4 =>
      hk u (h3.trans h1) (by rw [h4, h2, List.append_assoc]; rfl)
  case dpY =>
    obtain ⟨off, rfl⟩ := List.length_eq_one_iff.mp hlen
    exact fetchDirect_yields hm ht fun t h1 h2 => idle_yields fun u h3 h4 =>
      hk u (h3.trans h1) (by rw [h4, h2, List.append_assoc]; rfl)
  case dpInd =>
    obtain ⟨off, rfl⟩ := List.length_eq_one_iff.mp hlen
    exact fetchDirect_yields hm ht fun t h1 h2 => readPtr_yields fun u h3 h4 => by
      rw [hw h1]
      exact hk u (h3.trans h1) (by rw [h4, h2, List.append_assoc]; rfl)
  case dpXInd =>
    obtain ⟨off, rfl⟩ := List.length_eq_one_iff.mp hlen
    exact fetchDirect_yields hm ht fun t h1 h2 => idle_yields fun u h3 h4 => readPtr_yields fun v h5 h6 => by
      rw [hw (h3.trans h1)]
      exact hk v (h5.trans (h3.trans h1)) (by rw [h6, h4, h2]; simp [State.addressRows, Regs.dpOffX])
  case dpIndY =>
    obtain ⟨off, rfl⟩ := List.length_eq_one_iff.mp hlen
    exact fetchDirect_yields hm ht fun t h1 h2 => readPtr_yields fun u h3 h4 => idleIf_yields fun v h5 h6 => by
      rw [hw h1] at h6 ⊢
      exact hk v (h5.trans (h3.trans h1)) (by
        rw [h6, h4, h2]
        cases c <;> simp [State.addressRows, State.indexRows, Regs.dpOff, indexIdle, crosses])
  case dpLong =>
    obtain ⟨off, rfl⟩ := List.length_eq_one_iff.mp hlen
    exact fetchDirect_yields hm ht fun t h1 h2 => readPtrLong_yields fun u h3 h4 => by
      rw [hw h1, hb h1]
      exact hk u (h3.trans h1) (by rw [h4, h2, List.append_assoc]; rfl)
  case dpLongY =>
    obtain ⟨off, rfl⟩ := List.length_eq_one_iff.mp hlen
    exact fetchDirect_yields hm ht fun t h1 h2 => readPtrLong_yields fun u h3 h4 => by
      rw [hw h1, hb h1]
      exact hk u (h3.trans h1) (by rw [h4, h2, List.append_assoc]; rfl)
  case abs =>
    obtain ⟨lo, hi, rfl⟩ := operands_two hlen
    exact fetchWord_rows hm ht fun t h1 h2 _ => hk t h1 h2
  case absX =>
    obtain ⟨lo, hi, rfl⟩ := operands_two hlen
    exact fetchWord_rows hm ht fun t h1 h2 _ => idleIf_yields fun u h3 h4 => hk u (h3.trans h1) (by
      rw [h4, h2]
      cases c <;> simp [State.addressRows, State.indexRows, indexIdle, crosses])
  case absY =>
    obtain ⟨lo, hi, rfl⟩ := operands_two hlen
    exact fetchWord_rows hm ht fun t h1 h2 _ => idleIf_yields fun u h3 h4 => hk u (h3.trans h1) (by
      rw [h4, h2]
      cases c <;> simp [State.addressRows, State.indexRows, indexIdle, crosses])
  case long =>
    obtain ⟨lo, hi, bank, rfl⟩ := operands_three hlen
    exact fetchLong_rows (k := fun aab aa r => k (eaLong aab aa) r) hm ht fun t h1 h2 _ => hk t h1 h2
  case longX =>
    obtain ⟨lo, hi, bank, rfl⟩ := operands_three hlen
    exact fetchLong_rows (k := fun aab aa r => k (r.eaLongX aab aa) r) hm ht fun t h1 h2 _ => hk t h1 h2
  case sr =>
    obtain ⟨off, rfl⟩ := List.length_eq_one_iff.mp hlen
    have hq : s.Quiet := fun a => by rw [ht]; rfl
    have hpc : b.regs.incPc.incPc = { b.regs with pc := b.regs.pc + 2#16 } := by simp [Regs.incPc, BitVec.add_assoc]
    refine fetchByte_yields hq fun t h1 h2 _ => ?_
    rw [hpc]
    exact idle_yields fun u h3 h4 => hk u (by rw [h3, h1, hm]) (by
      rw [h4, h2, ht]
      simp [State.addressRows, State.operandRows, State.operandRow, Regs.codeAddr])
  case srIndY =>
    obtain ⟨off, rfl⟩ := List.length_eq_one_iff.mp hlen
    have hq : s.Quiet := fun a => by rw [ht]; rfl
    have hpc : b.regs.incPc.incPc = { b.regs with pc := b.regs.pc + 2#16 } := by simp [Regs.incPc, BitVec.add_assoc]
    refine fetchByte_yields hq fun t h1 h2 _ => ?_
    rw [hpc]
    exact idle_yields fun u h3 h4 => readPtr_yields fun v h5 h6 => idle_yields fun w h7 h8 => by
      rw [hw (h3.trans (h1.trans hm))]
      exact hk w (by rw [h7, h5, h3, h1, hm]) (by
        rw [h8, h6, h4, h2, ht]
        simp [State.addressRows, State.operandRows, State.operandRow, Regs.codeAddr, Regs.srOff])

/-! ## The data phases -/

theorem readPhase_yields {w8 : Bool} {ea : EA} {op : ReadOp}
    (h8 : w8 = true → op 8 (s.readMem ea.lo) r = .ok R)
    (h16 : w8 = false → op 16 (word (s.readMem ea.hi) (s.readMem ea.lo)) r = .ok R) :
    (readPhase w8 ea r op).Yields code s R s.mem (s.trace ++ ea.readRows w8) := by
  cases w8
  · refine readByte_yields fun t h1 h2 => ?_
    have h := readLast_yields (code := code) (r := r) (s := t) (a := ea.hi)
      (f := fun hi => op 16 (word hi (s.readMem ea.lo)) r) (by rw [State.readMem_of_mem h1]; exact h16 rfl)
    rw [h1, h2] at h
    simpa [EA.readRows] using h
  · exact readLast_yields (h8 rfl)

theorem writePhase_yields {w8 : Bool} {ea : EA} {v : Word} :
    (writePhase w8 ea v r).Yields code s r
      (if w8 then s.mem.set ea.lo.toNat (lo8 v) else (s.mem.set ea.lo.toNat (lo8 v)).set ea.hi.toNat (hi8 v))
      (s.trace ++ ea.writeRows w8 v) := by
  cases w8
  · refine write_yields fun t h1 h2 => ?_
    have h := writeLast_yields (code := code) (r := r) (s := t) ea.hi (hi8 v)
    rw [h1, h2] at h
    simpa [EA.writeRows] using h
  · exact writeLast_yields _ _

theorem rmwPhase_yields8 {w8 : Bool} {ea : EA} {f : RmwOp} (hw : w8 = true) :
    (rmwPhase w8 ea r f).Yields code s (f 8 (s.readMem ea.lo) r).2
      (s.mem.set ea.lo.toNat (f 8 (s.readMem ea.lo) r).1)
      (s.trace ++ [.read ea.lo, .internal, .write ea.lo (f 8 (s.readMem ea.lo) r).1]) := by
  subst hw
  refine readByte_yields fun t h1 h2 => idle_yields fun u h3 h4 => ?_
  have h := writeLast_yields (code := code) (r := (f 8 (s.readMem ea.lo) r).2) (s := u) ea.lo
    (f 8 (s.readMem ea.lo) r).1
  rw [h3, h4, h1, h2] at h
  simpa using h

theorem rmwPhase_yields16 {w8 : Bool} {ea : EA} {f : RmwOp} {v : Word} {R : Regs} (hw : w8 = false)
    (hf : f 16 (word (s.readMem ea.hi) (s.readMem ea.lo)) r = (v, R)) :
    (rmwPhase w8 ea r f).Yields code s R ((s.mem.set ea.hi.toNat (hi8 v)).set ea.lo.toNat (lo8 v))
      (s.trace ++ [.read ea.lo, .read ea.hi, .internal, .write ea.hi (hi8 v), .write ea.lo (lo8 v)]) := by
  subst hw
  refine readByte_yields fun t h1 h2 => readByte_yields fun u h3 h4 => ?_
  rw [State.readMem_of_mem h1, hf]
  refine idle_yields fun w h5 h6 => write_yields fun x h7 h8 => ?_
  have h := writeLast_yields (code := code) (r := R) (s := x) ea.lo (lo8 v)
  rw [h7, h8, h5, h6, h3, h4, h1, h2] at h
  simpa using h

/-- An immediate at 8 bits: one operand byte. -/
theorem immPhase_yields8 {b : State} {w8 : Bool} {v : Byte} {op : ReadOp} (hw : w8 = true) (hm : s.mem = b.mem) (ht : s.trace = b.opcodeRow)
    (h : op 8 v { b.regs with pc := b.regs.pc + 2#16 } = .ok R) :
    (immPhase w8 b.regs.incPc op).Yields (v :: code) s R b.mem (b.opcodeRow ++ b.operandRows 1) := by
  subst hw
  have hq : s.Quiet := fun a => by rw [ht]; rfl
  have hpc : b.regs.incPc.incPc = { b.regs with pc := b.regs.pc + 2#16 } := by simp [Regs.incPc, BitVec.add_assoc]
  have h := fetchLast_yields (r := b.regs.incPc) (f := fun v => op 8 v b.regs.incPc.incPc) (code := code) hq
    (by rw [hpc]; exact h)
  rw [hm, ht] at h
  simpa [immPhase, State.operandRows, State.operandRow, Regs.codeAddr] using h

/-- An immediate at 16 bits: two operand bytes, low then high. -/
theorem immPhase_yields16 {b : State} {w8 : Bool} {lo hi : Byte} {op : ReadOp} (hw : w8 = false) (hm : s.mem = b.mem) (ht : s.trace = b.opcodeRow)
    (h : op 16 (word hi lo) { b.regs with pc := b.regs.pc + 3#16 } = .ok R) :
    (immPhase w8 b.regs.incPc op).Yields (lo :: hi :: code) s R b.mem (b.opcodeRow ++ b.operandRows 2) := by
  subst hw
  have hq : s.Quiet := fun a => by rw [ht]; rfl
  have hpc : b.regs.incPc.incPc.incPc = { b.regs with pc := b.regs.pc + 3#16 } := by
    simp [Regs.incPc, BitVec.add_assoc]
  simp only [immPhase, Bool.false_eq_true, if_false]
  refine fetchByte_yields hq fun t h1 h2 hq1 => ?_
  have h := fetchLast_yields (r := b.regs.incPc.incPc) (s := t)
    (f := fun hi => op 16 (word hi lo) b.regs.incPc.incPc.incPc) (code := code) hq1 (by rw [hpc]; exact h)
  rw [h1, h2, hm, ht] at h
  simpa [State.operandRows, State.operandRow, Regs.codeAddr, BitVec.add_assoc] using h

/-! ## Stack cycles -/

theorem push_yields {v : Byte} {k : Regs → Prog} (hk : ∀ t : State, t.mem = s.mem.set r.stackAddr.toNat v →
    t.trace = s.trace ++ [.write r.stackAddr v] → (k r.decS).Yields code t R M TR) :
    (push v r k).Yields code s R M TR := write_yields hk

theorem pushLast_yields {v : Byte} {f : Regs → Regs} : (pushLast v r f).Yields code s (f r.decS)
    (s.mem.set r.stackAddr.toNat v) (s.trace ++ [.write r.stackAddr v]) := writeLast_yields _ _

/-- A 16-bit push: the high byte at S, then the low byte at S after `decS()`. -/
theorem push16Last_yields {v : Word} {f : Regs → Regs} : (push16Last v r f).Yields code s (f r.decS.decS)
    ((s.mem.set r.stackAddr.toNat (hi8 v)).set r.decS.stackAddr.toNat (lo8 v))
    (s.trace ++ [.write r.stackAddr (hi8 v), .write r.decS.stackAddr (lo8 v)]) := by
  refine push_yields fun t h1 h2 => ?_
  have h := pushLast_yields (code := code) (r := r.decS) (s := t) (v := lo8 v) (f := f)
  rw [h1, h2] at h
  simpa using h

theorem pull_yields {k : Byte → Regs → Prog} (hk : ∀ t : State, t.mem = s.mem →
    t.trace = s.trace ++ [.read r.incS.stackAddr] →
      (k (s.readMem r.incS.stackAddr) r.incS).Yields code t R M TR) : (pull r k).Yields code s R M TR :=
  readByte_yields (r := r.incS) (k := fun b => k b r.incS) hk

theorem pullLast_yields {wb : Byte → Regs → Regs} : (pullLast r wb).Yields code s
    (wb (s.readMem r.incS.stackAddr) r.incS) s.mem (s.trace ++ [.read r.incS.stackAddr]) := readLast_yields rfl

end

/-! ## Instructions -/

/-- An instruction whose program yields a result completes with it. -/
theorem completes_of_yields {i : Instr} {s : State} {op : Byte} {p : Regs → Prog} {code : List Byte} {R : Regs}
    {M : Memory} {TR : List BusCycle} (he : exec i s = runInstr op p code s) (hd : s.dispatches op = true)
    (h : ∀ t : State, t.mem = s.mem → t.trace = s.opcodeRow → (p s.regs.incPc).Yields code t R M TR) :
    Completes i s R M TR := by
  have hy := h (s.fetchOpcode op) rfl rfl
  exact ⟨_, by rw [he, runInstr_of_dispatches hd], hy.regs, hy.mem, hy.trace, hy.cont, hy.wb, by simp, by simp⟩

/-- The common form of the memory forms of the read class at the width of M (R230, R158). -/
theorem readM_yields {b t : State} {m : Mode} {op : ReadOp} {code : List Byte} {R : Regs} (hm : t.mem = b.mem)
    (ht : t.trace = b.opcodeRow) (hlen : code.length = m.operands)
    (h8 : b.regs.fM = true → op 8 (b.readMem (b.effAddr m code).lo)
      { b.regs with pc := b.regs.pc + BitVec.ofNat 16 (1 + m.operands) } = .ok R)
    (h16 : b.regs.fM = false → op 16 (word (b.readMem (b.effAddr m code).hi) (b.readMem (b.effAddr m code).lo))
      { b.regs with pc := b.regs.pc + BitVec.ofNat 16 (1 + m.operands) } = .ok R) :
    (readM m b.regs.incPc op).Yields code t R b.mem
      (b.opcodeRow ++ b.addressRows m .read code ++ (b.effAddr m code).readRows b.regs.fM) := by
  refine resolve_yields hm ht hlen fun u h1 h2 => ?_
  have h := readPhase_yields (s := u) (w8 := b.regs.fM) (ea := b.effAddr m code) (op := op) (code := [])
    (by simpa only [State.readMem_of_mem h1] using h8) (by simpa only [State.readMem_of_mem h1] using h16)
  rw [h1, h2] at h
  exact h

/-- The same at the width of X_flag. -/
theorem readX_yields {b t : State} {m : Mode} {op : ReadOp} {code : List Byte} {R : Regs} (hm : t.mem = b.mem)
    (ht : t.trace = b.opcodeRow) (hlen : code.length = m.operands)
    (h8 : b.regs.fX = true → op 8 (b.readMem (b.effAddr m code).lo)
      { b.regs with pc := b.regs.pc + BitVec.ofNat 16 (1 + m.operands) } = .ok R)
    (h16 : b.regs.fX = false → op 16 (word (b.readMem (b.effAddr m code).hi) (b.readMem (b.effAddr m code).lo))
      { b.regs with pc := b.regs.pc + BitVec.ofNat 16 (1 + m.operands) } = .ok R) :
    (readX m b.regs.incPc op).Yields code t R b.mem
      (b.opcodeRow ++ b.addressRows m .read code ++ (b.effAddr m code).readRows b.regs.fX) := by
  refine resolve_yields hm ht hlen fun u h1 h2 => ?_
  have h := readPhase_yields (s := u) (w8 := b.regs.fX) (ea := b.effAddr m code) (op := op) (code := [])
    (by simpa only [State.readMem_of_mem h1] using h8) (by simpa only [State.readMem_of_mem h1] using h16)
  rw [h1, h2] at h
  exact h

/-- The common form of the stores (R158, R293 to R296). -/
theorem store_yields {b t : State} {m : Mode} {w8 : Regs → Bool} {v : Regs → Word} {code : List Byte} (hm : t.mem = b.mem)
    (ht : t.trace = b.opcodeRow) (hlen : code.length = m.operands) (hw : ∀ (r : Regs) p, w8 { r with pc := p } = w8 r)
    (hv : ∀ (r : Regs) p, v { r with pc := p } = v r) :
    (resolve m .write b.regs.incPc fun ea r => writePhase (w8 r) ea (v r) r).Yields code t
      { b.regs with pc := b.regs.pc + BitVec.ofNat 16 (1 + m.operands) }
      (if w8 b.regs then b.mem.set (b.effAddr m code).lo.toNat (lo8 (v b.regs))
       else (b.mem.set (b.effAddr m code).lo.toNat (lo8 (v b.regs))).set (b.effAddr m code).hi.toNat (hi8 (v b.regs)))
      (b.opcodeRow ++ b.addressRows m .write code ++ (b.effAddr m code).writeRows (w8 b.regs) (v b.regs)) := by
  refine resolve_yields hm ht hlen fun u h1 h2 => ?_
  have h := writePhase_yields (s := u) (w8 := w8 b.regs) (ea := b.effAddr m code) (v := v b.regs) (code := [])
    (r := { b.regs with pc := b.regs.pc + BitVec.ofNat 16 (1 + m.operands) })
  rw [h1, h2] at h
  rw [hw, hv]
  exact h

/-- The common form of the memory forms of the RMW class at 8 bits (R158, R260). -/
theorem rmwM_yields8 {b t : State} {m : Mode} {f : RmwOp} {code : List Byte} {v : Byte} {R : Regs} (hm : t.mem = b.mem)
    (ht : t.trace = b.opcodeRow) (hlen : code.length = m.operands) (hw : b.regs.fM = true)
    (hf : f 8 (b.readMem (b.effAddr m code).lo)
      { b.regs with pc := b.regs.pc + BitVec.ofNat 16 (1 + m.operands) } = (v, R)) :
    (rmwM m b.regs.incPc f).Yields code t R (b.mem.set (b.effAddr m code).lo.toNat v)
      (b.opcodeRow ++ b.addressRows m .rmw code ++
        [.read (b.effAddr m code).lo, .internal, .write (b.effAddr m code).lo v]) := by
  refine resolve_yields hm ht hlen fun u h1 h2 => ?_
  have h := rmwPhase_yields8 (w8 := b.regs.fM) (s := u) (ea := b.effAddr m code) (f := f) (code := [])
    (r := { b.regs with pc := b.regs.pc + BitVec.ofNat 16 (1 + m.operands) }) hw
  rw [State.readMem_of_mem h1, hf, h1, h2] at h
  exact h

/-- The same at 16 bits. -/
theorem rmwM_yields16 {b t : State} {m : Mode} {f : RmwOp} {code : List Byte} {v : Word} {R : Regs} (hm : t.mem = b.mem)
    (ht : t.trace = b.opcodeRow) (hlen : code.length = m.operands) (hw : b.regs.fM = false)
    (hf : f 16 (word (b.readMem (b.effAddr m code).hi) (b.readMem (b.effAddr m code).lo))
      { b.regs with pc := b.regs.pc + BitVec.ofNat 16 (1 + m.operands) } = (v, R)) :
    (rmwM m b.regs.incPc f).Yields code t R
      ((b.mem.set (b.effAddr m code).hi.toNat (hi8 v)).set (b.effAddr m code).lo.toNat (lo8 v))
      (b.opcodeRow ++ b.addressRows m .rmw code ++ [.read (b.effAddr m code).lo, .read (b.effAddr m code).hi, .internal,
        .write (b.effAddr m code).hi (hi8 v), .write (b.effAddr m code).lo (lo8 v)]) := by
  refine resolve_yields hm ht hlen fun u h1 h2 => ?_
  have h := rmwPhase_yields16 (w8 := b.regs.fM) (s := u) (ea := b.effAddr m code) (f := f) (code := [])
    (r := { b.regs with pc := b.regs.pc + BitVec.ofNat 16 (1 + m.operands) }) hw
    (by simpa only [State.readMem_of_mem h1] using hf)
  rw [h1, h2] at h
  exact h

end Sys2Proof.Machine
end

