-- ==== Sys2Proof/Laws/PerInstr.lean ====
section
/-! SUPPORT. One lemma per instruction about its encoded form (30_encoding.md R90 to R98): the format that its opcode
selects is its own, and it has as many operand bytes as the format has under the width flags. -/

namespace Sys2Proof.Laws.EncodedForm

/-- The opcode selects the instruction's format, and the operand bytes are as many as the format says (R90, R97). -/
def Statement (i : Instr) : Prop :=
  formatOf i.opcode = i.format ∧
    ∀ m8 x8, i.wellFormed m8 x8 = true → i.operandBytes.length = i.format.operands m8 x8

/-- An immediate that fits has one byte at 8 bits and two at 16 (R92). -/
theorem immediate_length {w8 : Bool} (v : Imm) (h : v.fits w8 = true) :
    (Machine.immBytes v).length = if w8 then 1 else 2 := by
  cases v <;> cases w8 <;> first | rfl | cases h

theorem brk (sig : Byte) : Statement (.brk sig) := ⟨(by decide : formatOf 0x00#8 = .opB),
  fun _ _ _ => rfl⟩
theorem oraDpXInd (off : Byte) : Statement (.oraDpXInd off) := ⟨(by decide : formatOf 0x01#8 = .opB),
  fun _ _ _ => rfl⟩
theorem cop (sig : Byte) : Statement (.cop sig) := ⟨(by decide : formatOf 0x02#8 = .opB),
  fun _ _ _ => rfl⟩
theorem oraSr (off : Byte) : Statement (.oraSr off) := ⟨(by decide : formatOf 0x03#8 = .opB),
  fun _ _ _ => rfl⟩
theorem tsbDp (off : Byte) : Statement (.tsbDp off) := ⟨(by decide : formatOf 0x04#8 = .opB),
  fun _ _ _ => rfl⟩
theorem oraDp (off : Byte) : Statement (.oraDp off) := ⟨(by decide : formatOf 0x05#8 = .opB),
  fun _ _ _ => rfl⟩
theorem aslDp (off : Byte) : Statement (.aslDp off) := ⟨(by decide : formatOf 0x06#8 = .opB),
  fun _ _ _ => rfl⟩
theorem oraDpLong (off : Byte) : Statement (.oraDpLong off) := ⟨(by decide : formatOf 0x07#8 = .opB),
  fun _ _ _ => rfl⟩
theorem oraImm (v : Imm) : Statement (.oraImm v) := ⟨(by decide : formatOf 0x09#8 = .opIm),
  fun m8 _ h => immediate_length (w8 := m8) v h⟩
theorem tsbAbs (aa : Word) : Statement (.tsbAbs aa) := ⟨(by decide : formatOf 0x0C#8 = .opW),
  fun _ _ _ => rfl⟩
theorem oraAbs (aa : Word) : Statement (.oraAbs aa) := ⟨(by decide : formatOf 0x0D#8 = .opW),
  fun _ _ _ => rfl⟩
theorem aslAbs (aa : Word) : Statement (.aslAbs aa) := ⟨(by decide : formatOf 0x0E#8 = .opW),
  fun _ _ _ => rfl⟩
theorem oraLong (al : Addr) : Statement (.oraLong al) := ⟨(by decide : formatOf 0x0F#8 = .opL),
  fun _ _ _ => rfl⟩
theorem bpl (rel : Byte) : Statement (.bpl rel) := ⟨(by decide : formatOf 0x10#8 = .opB),
  fun _ _ _ => rfl⟩
theorem oraDpIndY (off : Byte) : Statement (.oraDpIndY off) := ⟨(by decide : formatOf 0x11#8 = .opB),
  fun _ _ _ => rfl⟩
theorem oraDpInd (off : Byte) : Statement (.oraDpInd off) := ⟨(by decide : formatOf 0x12#8 = .opB),
  fun _ _ _ => rfl⟩
theorem oraSrIndY (off : Byte) : Statement (.oraSrIndY off) := ⟨(by decide : formatOf 0x13#8 = .opB),
  fun _ _ _ => rfl⟩
theorem trbDp (off : Byte) : Statement (.trbDp off) := ⟨(by decide : formatOf 0x14#8 = .opB),
  fun _ _ _ => rfl⟩
theorem oraDpX (off : Byte) : Statement (.oraDpX off) := ⟨(by decide : formatOf 0x15#8 = .opB),
  fun _ _ _ => rfl⟩
theorem aslDpX (off : Byte) : Statement (.aslDpX off) := ⟨(by decide : formatOf 0x16#8 = .opB),
  fun _ _ _ => rfl⟩
theorem oraDpLongY (off : Byte) : Statement (.oraDpLongY off) := ⟨(by decide : formatOf 0x17#8 = .opB),
  fun _ _ _ => rfl⟩
theorem oraAbsY (aa : Word) : Statement (.oraAbsY aa) := ⟨(by decide : formatOf 0x19#8 = .opW),
  fun _ _ _ => rfl⟩
theorem trbAbs (aa : Word) : Statement (.trbAbs aa) := ⟨(by decide : formatOf 0x1C#8 = .opW),
  fun _ _ _ => rfl⟩
theorem oraAbsX (aa : Word) : Statement (.oraAbsX aa) := ⟨(by decide : formatOf 0x1D#8 = .opW),
  fun _ _ _ => rfl⟩
theorem aslAbsX (aa : Word) : Statement (.aslAbsX aa) := ⟨(by decide : formatOf 0x1E#8 = .opW),
  fun _ _ _ => rfl⟩
theorem oraLongX (al : Addr) : Statement (.oraLongX al) := ⟨(by decide : formatOf 0x1F#8 = .opL),
  fun _ _ _ => rfl⟩
theorem jsrAbs (aa : Word) : Statement (.jsrAbs aa) := ⟨(by decide : formatOf 0x20#8 = .opW),
  fun _ _ _ => rfl⟩
theorem andDpXInd (off : Byte) : Statement (.andDpXInd off) := ⟨(by decide : formatOf 0x21#8 = .opB),
  fun _ _ _ => rfl⟩
theorem jsl (al : Addr) : Statement (.jsl al) := ⟨(by decide : formatOf 0x22#8 = .opL),
  fun _ _ _ => rfl⟩
theorem andSr (off : Byte) : Statement (.andSr off) := ⟨(by decide : formatOf 0x23#8 = .opB),
  fun _ _ _ => rfl⟩
theorem bitDp (off : Byte) : Statement (.bitDp off) := ⟨(by decide : formatOf 0x24#8 = .opB),
  fun _ _ _ => rfl⟩
theorem andDp (off : Byte) : Statement (.andDp off) := ⟨(by decide : formatOf 0x25#8 = .opB),
  fun _ _ _ => rfl⟩
theorem rolDp (off : Byte) : Statement (.rolDp off) := ⟨(by decide : formatOf 0x26#8 = .opB),
  fun _ _ _ => rfl⟩
theorem andDpLong (off : Byte) : Statement (.andDpLong off) := ⟨(by decide : formatOf 0x27#8 = .opB),
  fun _ _ _ => rfl⟩
theorem andImm (v : Imm) : Statement (.andImm v) := ⟨(by decide : formatOf 0x29#8 = .opIm),
  fun m8 _ h => immediate_length (w8 := m8) v h⟩
theorem bitAbs (aa : Word) : Statement (.bitAbs aa) := ⟨(by decide : formatOf 0x2C#8 = .opW),
  fun _ _ _ => rfl⟩
theorem andAbs (aa : Word) : Statement (.andAbs aa) := ⟨(by decide : formatOf 0x2D#8 = .opW),
  fun _ _ _ => rfl⟩
theorem rolAbs (aa : Word) : Statement (.rolAbs aa) := ⟨(by decide : formatOf 0x2E#8 = .opW),
  fun _ _ _ => rfl⟩
theorem andLong (al : Addr) : Statement (.andLong al) := ⟨(by decide : formatOf 0x2F#8 = .opL),
  fun _ _ _ => rfl⟩
theorem bmi (rel : Byte) : Statement (.bmi rel) := ⟨(by decide : formatOf 0x30#8 = .opB),
  fun _ _ _ => rfl⟩
theorem andDpIndY (off : Byte) : Statement (.andDpIndY off) := ⟨(by decide : formatOf 0x31#8 = .opB),
  fun _ _ _ => rfl⟩
theorem andDpInd (off : Byte) : Statement (.andDpInd off) := ⟨(by decide : formatOf 0x32#8 = .opB),
  fun _ _ _ => rfl⟩
theorem andSrIndY (off : Byte) : Statement (.andSrIndY off) := ⟨(by decide : formatOf 0x33#8 = .opB),
  fun _ _ _ => rfl⟩
theorem bitDpX (off : Byte) : Statement (.bitDpX off) := ⟨(by decide : formatOf 0x34#8 = .opB),
  fun _ _ _ => rfl⟩
theorem andDpX (off : Byte) : Statement (.andDpX off) := ⟨(by decide : formatOf 0x35#8 = .opB),
  fun _ _ _ => rfl⟩
theorem rolDpX (off : Byte) : Statement (.rolDpX off) := ⟨(by decide : formatOf 0x36#8 = .opB),
  fun _ _ _ => rfl⟩
theorem andDpLongY (off : Byte) : Statement (.andDpLongY off) := ⟨(by decide : formatOf 0x37#8 = .opB),
  fun _ _ _ => rfl⟩
theorem andAbsY (aa : Word) : Statement (.andAbsY aa) := ⟨(by decide : formatOf 0x39#8 = .opW),
  fun _ _ _ => rfl⟩
theorem bitAbsX (aa : Word) : Statement (.bitAbsX aa) := ⟨(by decide : formatOf 0x3C#8 = .opW),
  fun _ _ _ => rfl⟩
theorem andAbsX (aa : Word) : Statement (.andAbsX aa) := ⟨(by decide : formatOf 0x3D#8 = .opW),
  fun _ _ _ => rfl⟩
theorem rolAbsX (aa : Word) : Statement (.rolAbsX aa) := ⟨(by decide : formatOf 0x3E#8 = .opW),
  fun _ _ _ => rfl⟩
theorem andLongX (al : Addr) : Statement (.andLongX al) := ⟨(by decide : formatOf 0x3F#8 = .opL),
  fun _ _ _ => rfl⟩
theorem eorDpXInd (off : Byte) : Statement (.eorDpXInd off) := ⟨(by decide : formatOf 0x41#8 = .opB),
  fun _ _ _ => rfl⟩
theorem wdm (sig : Byte) : Statement (.wdm sig) := ⟨(by decide : formatOf 0x42#8 = .opB),
  fun _ _ _ => rfl⟩
theorem eorSr (off : Byte) : Statement (.eorSr off) := ⟨(by decide : formatOf 0x43#8 = .opB),
  fun _ _ _ => rfl⟩
theorem mvp (dst : Byte) (src : Byte) : Statement (.mvp dst src) := ⟨(by decide : formatOf 0x44#8 = .opBb),
  fun _ _ _ => rfl⟩
theorem eorDp (off : Byte) : Statement (.eorDp off) := ⟨(by decide : formatOf 0x45#8 = .opB),
  fun _ _ _ => rfl⟩
theorem lsrDp (off : Byte) : Statement (.lsrDp off) := ⟨(by decide : formatOf 0x46#8 = .opB),
  fun _ _ _ => rfl⟩
theorem eorDpLong (off : Byte) : Statement (.eorDpLong off) := ⟨(by decide : formatOf 0x47#8 = .opB),
  fun _ _ _ => rfl⟩
theorem eorImm (v : Imm) : Statement (.eorImm v) := ⟨(by decide : formatOf 0x49#8 = .opIm),
  fun m8 _ h => immediate_length (w8 := m8) v h⟩
theorem jmpAbs (aa : Word) : Statement (.jmpAbs aa) := ⟨(by decide : formatOf 0x4C#8 = .opW),
  fun _ _ _ => rfl⟩
theorem eorAbs (aa : Word) : Statement (.eorAbs aa) := ⟨(by decide : formatOf 0x4D#8 = .opW),
  fun _ _ _ => rfl⟩
theorem lsrAbs (aa : Word) : Statement (.lsrAbs aa) := ⟨(by decide : formatOf 0x4E#8 = .opW),
  fun _ _ _ => rfl⟩
theorem eorLong (al : Addr) : Statement (.eorLong al) := ⟨(by decide : formatOf 0x4F#8 = .opL),
  fun _ _ _ => rfl⟩
theorem bvc (rel : Byte) : Statement (.bvc rel) := ⟨(by decide : formatOf 0x50#8 = .opB),
  fun _ _ _ => rfl⟩
theorem eorDpIndY (off : Byte) : Statement (.eorDpIndY off) := ⟨(by decide : formatOf 0x51#8 = .opB),
  fun _ _ _ => rfl⟩
theorem eorDpInd (off : Byte) : Statement (.eorDpInd off) := ⟨(by decide : formatOf 0x52#8 = .opB),
  fun _ _ _ => rfl⟩
theorem eorSrIndY (off : Byte) : Statement (.eorSrIndY off) := ⟨(by decide : formatOf 0x53#8 = .opB),
  fun _ _ _ => rfl⟩
theorem mvn (dst : Byte) (src : Byte) : Statement (.mvn dst src) := ⟨(by decide : formatOf 0x54#8 = .opBb),
  fun _ _ _ => rfl⟩
theorem eorDpX (off : Byte) : Statement (.eorDpX off) := ⟨(by decide : formatOf 0x55#8 = .opB),
  fun _ _ _ => rfl⟩
theorem lsrDpX (off : Byte) : Statement (.lsrDpX off) := ⟨(by decide : formatOf 0x56#8 = .opB),
  fun _ _ _ => rfl⟩
theorem eorDpLongY (off : Byte) : Statement (.eorDpLongY off) := ⟨(by decide : formatOf 0x57#8 = .opB),
  fun _ _ _ => rfl⟩
theorem eorAbsY (aa : Word) : Statement (.eorAbsY aa) := ⟨(by decide : formatOf 0x59#8 = .opW),
  fun _ _ _ => rfl⟩
theorem jmlLong (al : Addr) : Statement (.jmlLong al) := ⟨(by decide : formatOf 0x5C#8 = .opL),
  fun _ _ _ => rfl⟩
theorem eorAbsX (aa : Word) : Statement (.eorAbsX aa) := ⟨(by decide : formatOf 0x5D#8 = .opW),
  fun _ _ _ => rfl⟩
theorem lsrAbsX (aa : Word) : Statement (.lsrAbsX aa) := ⟨(by decide : formatOf 0x5E#8 = .opW),
  fun _ _ _ => rfl⟩
theorem eorLongX (al : Addr) : Statement (.eorLongX al) := ⟨(by decide : formatOf 0x5F#8 = .opL),
  fun _ _ _ => rfl⟩
theorem adcDpXInd (off : Byte) : Statement (.adcDpXInd off) := ⟨(by decide : formatOf 0x61#8 = .opB),
  fun _ _ _ => rfl⟩
theorem per (rel : Word) : Statement (.per rel) := ⟨(by decide : formatOf 0x62#8 = .opW),
  fun _ _ _ => rfl⟩
theorem adcSr (off : Byte) : Statement (.adcSr off) := ⟨(by decide : formatOf 0x63#8 = .opB),
  fun _ _ _ => rfl⟩
theorem stzDp (off : Byte) : Statement (.stzDp off) := ⟨(by decide : formatOf 0x64#8 = .opB),
  fun _ _ _ => rfl⟩
theorem adcDp (off : Byte) : Statement (.adcDp off) := ⟨(by decide : formatOf 0x65#8 = .opB),
  fun _ _ _ => rfl⟩
theorem rorDp (off : Byte) : Statement (.rorDp off) := ⟨(by decide : formatOf 0x66#8 = .opB),
  fun _ _ _ => rfl⟩
theorem adcDpLong (off : Byte) : Statement (.adcDpLong off) := ⟨(by decide : formatOf 0x67#8 = .opB),
  fun _ _ _ => rfl⟩
theorem adcImm (v : Imm) : Statement (.adcImm v) := ⟨(by decide : formatOf 0x69#8 = .opIm),
  fun m8 _ h => immediate_length (w8 := m8) v h⟩
theorem jmpInd (aa : Word) : Statement (.jmpInd aa) := ⟨(by decide : formatOf 0x6C#8 = .opW),
  fun _ _ _ => rfl⟩
theorem adcAbs (aa : Word) : Statement (.adcAbs aa) := ⟨(by decide : formatOf 0x6D#8 = .opW),
  fun _ _ _ => rfl⟩
theorem rorAbs (aa : Word) : Statement (.rorAbs aa) := ⟨(by decide : formatOf 0x6E#8 = .opW),
  fun _ _ _ => rfl⟩
theorem adcLong (al : Addr) : Statement (.adcLong al) := ⟨(by decide : formatOf 0x6F#8 = .opL),
  fun _ _ _ => rfl⟩
theorem bvs (rel : Byte) : Statement (.bvs rel) := ⟨(by decide : formatOf 0x70#8 = .opB),
  fun _ _ _ => rfl⟩
theorem adcDpIndY (off : Byte) : Statement (.adcDpIndY off) := ⟨(by decide : formatOf 0x71#8 = .opB),
  fun _ _ _ => rfl⟩
theorem adcDpInd (off : Byte) : Statement (.adcDpInd off) := ⟨(by decide : formatOf 0x72#8 = .opB),
  fun _ _ _ => rfl⟩
theorem adcSrIndY (off : Byte) : Statement (.adcSrIndY off) := ⟨(by decide : formatOf 0x73#8 = .opB),
  fun _ _ _ => rfl⟩
theorem stzDpX (off : Byte) : Statement (.stzDpX off) := ⟨(by decide : formatOf 0x74#8 = .opB),
  fun _ _ _ => rfl⟩
theorem adcDpX (off : Byte) : Statement (.adcDpX off) := ⟨(by decide : formatOf 0x75#8 = .opB),
  fun _ _ _ => rfl⟩
theorem rorDpX (off : Byte) : Statement (.rorDpX off) := ⟨(by decide : formatOf 0x76#8 = .opB),
  fun _ _ _ => rfl⟩
theorem adcDpLongY (off : Byte) : Statement (.adcDpLongY off) := ⟨(by decide : formatOf 0x77#8 = .opB),
  fun _ _ _ => rfl⟩
theorem adcAbsY (aa : Word) : Statement (.adcAbsY aa) := ⟨(by decide : formatOf 0x79#8 = .opW),
  fun _ _ _ => rfl⟩
theorem jmpXInd (aa : Word) : Statement (.jmpXInd aa) := ⟨(by decide : formatOf 0x7C#8 = .opW),
  fun _ _ _ => rfl⟩
theorem adcAbsX (aa : Word) : Statement (.adcAbsX aa) := ⟨(by decide : formatOf 0x7D#8 = .opW),
  fun _ _ _ => rfl⟩
theorem rorAbsX (aa : Word) : Statement (.rorAbsX aa) := ⟨(by decide : formatOf 0x7E#8 = .opW),
  fun _ _ _ => rfl⟩
theorem adcLongX (al : Addr) : Statement (.adcLongX al) := ⟨(by decide : formatOf 0x7F#8 = .opL),
  fun _ _ _ => rfl⟩
theorem bra (rel : Byte) : Statement (.bra rel) := ⟨(by decide : formatOf 0x80#8 = .opB),
  fun _ _ _ => rfl⟩
theorem staDpXInd (off : Byte) : Statement (.staDpXInd off) := ⟨(by decide : formatOf 0x81#8 = .opB),
  fun _ _ _ => rfl⟩
theorem brl (rel : Word) : Statement (.brl rel) := ⟨(by decide : formatOf 0x82#8 = .opW),
  fun _ _ _ => rfl⟩
theorem staSr (off : Byte) : Statement (.staSr off) := ⟨(by decide : formatOf 0x83#8 = .opB),
  fun _ _ _ => rfl⟩
theorem styDp (off : Byte) : Statement (.styDp off) := ⟨(by decide : formatOf 0x84#8 = .opB),
  fun _ _ _ => rfl⟩
theorem staDp (off : Byte) : Statement (.staDp off) := ⟨(by decide : formatOf 0x85#8 = .opB),
  fun _ _ _ => rfl⟩
theorem stxDp (off : Byte) : Statement (.stxDp off) := ⟨(by decide : formatOf 0x86#8 = .opB),
  fun _ _ _ => rfl⟩
theorem staDpLong (off : Byte) : Statement (.staDpLong off) := ⟨(by decide : formatOf 0x87#8 = .opB),
  fun _ _ _ => rfl⟩
theorem bitImm (v : Imm) : Statement (.bitImm v) := ⟨(by decide : formatOf 0x89#8 = .opIm),
  fun m8 _ h => immediate_length (w8 := m8) v h⟩
theorem styAbs (aa : Word) : Statement (.styAbs aa) := ⟨(by decide : formatOf 0x8C#8 = .opW),
  fun _ _ _ => rfl⟩
theorem staAbs (aa : Word) : Statement (.staAbs aa) := ⟨(by decide : formatOf 0x8D#8 = .opW),
  fun _ _ _ => rfl⟩
theorem stxAbs (aa : Word) : Statement (.stxAbs aa) := ⟨(by decide : formatOf 0x8E#8 = .opW),
  fun _ _ _ => rfl⟩
theorem staLong (al : Addr) : Statement (.staLong al) := ⟨(by decide : formatOf 0x8F#8 = .opL),
  fun _ _ _ => rfl⟩
theorem bcc (rel : Byte) : Statement (.bcc rel) := ⟨(by decide : formatOf 0x90#8 = .opB),
  fun _ _ _ => rfl⟩
theorem staDpIndY (off : Byte) : Statement (.staDpIndY off) := ⟨(by decide : formatOf 0x91#8 = .opB),
  fun _ _ _ => rfl⟩
theorem staDpInd (off : Byte) : Statement (.staDpInd off) := ⟨(by decide : formatOf 0x92#8 = .opB),
  fun _ _ _ => rfl⟩
theorem staSrIndY (off : Byte) : Statement (.staSrIndY off) := ⟨(by decide : formatOf 0x93#8 = .opB),
  fun _ _ _ => rfl⟩
theorem styDpX (off : Byte) : Statement (.styDpX off) := ⟨(by decide : formatOf 0x94#8 = .opB),
  fun _ _ _ => rfl⟩
theorem staDpX (off : Byte) : Statement (.staDpX off) := ⟨(by decide : formatOf 0x95#8 = .opB),
  fun _ _ _ => rfl⟩
theorem stxDpY (off : Byte) : Statement (.stxDpY off) := ⟨(by decide : formatOf 0x96#8 = .opB),
  fun _ _ _ => rfl⟩
theorem staDpLongY (off : Byte) : Statement (.staDpLongY off) := ⟨(by decide : formatOf 0x97#8 = .opB),
  fun _ _ _ => rfl⟩
theorem staAbsY (aa : Word) : Statement (.staAbsY aa) := ⟨(by decide : formatOf 0x99#8 = .opW),
  fun _ _ _ => rfl⟩
theorem stzAbs (aa : Word) : Statement (.stzAbs aa) := ⟨(by decide : formatOf 0x9C#8 = .opW),
  fun _ _ _ => rfl⟩
theorem staAbsX (aa : Word) : Statement (.staAbsX aa) := ⟨(by decide : formatOf 0x9D#8 = .opW),
  fun _ _ _ => rfl⟩
theorem stzAbsX (aa : Word) : Statement (.stzAbsX aa) := ⟨(by decide : formatOf 0x9E#8 = .opW),
  fun _ _ _ => rfl⟩
theorem staLongX (al : Addr) : Statement (.staLongX al) := ⟨(by decide : formatOf 0x9F#8 = .opL),
  fun _ _ _ => rfl⟩
theorem ldyImm (v : Imm) : Statement (.ldyImm v) := ⟨(by decide : formatOf 0xA0#8 = .opIx),
  fun _ x8 h => immediate_length (w8 := x8) v h⟩
theorem ldaDpXInd (off : Byte) : Statement (.ldaDpXInd off) := ⟨(by decide : formatOf 0xA1#8 = .opB),
  fun _ _ _ => rfl⟩
theorem ldxImm (v : Imm) : Statement (.ldxImm v) := ⟨(by decide : formatOf 0xA2#8 = .opIx),
  fun _ x8 h => immediate_length (w8 := x8) v h⟩
theorem ldaSr (off : Byte) : Statement (.ldaSr off) := ⟨(by decide : formatOf 0xA3#8 = .opB),
  fun _ _ _ => rfl⟩
theorem ldyDp (off : Byte) : Statement (.ldyDp off) := ⟨(by decide : formatOf 0xA4#8 = .opB),
  fun _ _ _ => rfl⟩
theorem ldaDp (off : Byte) : Statement (.ldaDp off) := ⟨(by decide : formatOf 0xA5#8 = .opB),
  fun _ _ _ => rfl⟩
theorem ldxDp (off : Byte) : Statement (.ldxDp off) := ⟨(by decide : formatOf 0xA6#8 = .opB),
  fun _ _ _ => rfl⟩
theorem ldaDpLong (off : Byte) : Statement (.ldaDpLong off) := ⟨(by decide : formatOf 0xA7#8 = .opB),
  fun _ _ _ => rfl⟩
theorem ldaImm (v : Imm) : Statement (.ldaImm v) := ⟨(by decide : formatOf 0xA9#8 = .opIm),
  fun m8 _ h => immediate_length (w8 := m8) v h⟩
theorem ldyAbs (aa : Word) : Statement (.ldyAbs aa) := ⟨(by decide : formatOf 0xAC#8 = .opW),
  fun _ _ _ => rfl⟩
theorem ldaAbs (aa : Word) : Statement (.ldaAbs aa) := ⟨(by decide : formatOf 0xAD#8 = .opW),
  fun _ _ _ => rfl⟩
theorem ldxAbs (aa : Word) : Statement (.ldxAbs aa) := ⟨(by decide : formatOf 0xAE#8 = .opW),
  fun _ _ _ => rfl⟩
theorem ldaLong (al : Addr) : Statement (.ldaLong al) := ⟨(by decide : formatOf 0xAF#8 = .opL),
  fun _ _ _ => rfl⟩
theorem bcs (rel : Byte) : Statement (.bcs rel) := ⟨(by decide : formatOf 0xB0#8 = .opB),
  fun _ _ _ => rfl⟩
theorem ldaDpIndY (off : Byte) : Statement (.ldaDpIndY off) := ⟨(by decide : formatOf 0xB1#8 = .opB),
  fun _ _ _ => rfl⟩
theorem ldaDpInd (off : Byte) : Statement (.ldaDpInd off) := ⟨(by decide : formatOf 0xB2#8 = .opB),
  fun _ _ _ => rfl⟩
theorem ldaSrIndY (off : Byte) : Statement (.ldaSrIndY off) := ⟨(by decide : formatOf 0xB3#8 = .opB),
  fun _ _ _ => rfl⟩
theorem ldyDpX (off : Byte) : Statement (.ldyDpX off) := ⟨(by decide : formatOf 0xB4#8 = .opB),
  fun _ _ _ => rfl⟩
theorem ldaDpX (off : Byte) : Statement (.ldaDpX off) := ⟨(by decide : formatOf 0xB5#8 = .opB),
  fun _ _ _ => rfl⟩
theorem ldxDpY (off : Byte) : Statement (.ldxDpY off) := ⟨(by decide : formatOf 0xB6#8 = .opB),
  fun _ _ _ => rfl⟩
theorem ldaDpLongY (off : Byte) : Statement (.ldaDpLongY off) := ⟨(by decide : formatOf 0xB7#8 = .opB),
  fun _ _ _ => rfl⟩
theorem ldaAbsY (aa : Word) : Statement (.ldaAbsY aa) := ⟨(by decide : formatOf 0xB9#8 = .opW),
  fun _ _ _ => rfl⟩
theorem ldyAbsX (aa : Word) : Statement (.ldyAbsX aa) := ⟨(by decide : formatOf 0xBC#8 = .opW),
  fun _ _ _ => rfl⟩
theorem ldaAbsX (aa : Word) : Statement (.ldaAbsX aa) := ⟨(by decide : formatOf 0xBD#8 = .opW),
  fun _ _ _ => rfl⟩
theorem ldxAbsY (aa : Word) : Statement (.ldxAbsY aa) := ⟨(by decide : formatOf 0xBE#8 = .opW),
  fun _ _ _ => rfl⟩
theorem ldaLongX (al : Addr) : Statement (.ldaLongX al) := ⟨(by decide : formatOf 0xBF#8 = .opL),
  fun _ _ _ => rfl⟩
theorem cpyImm (v : Imm) : Statement (.cpyImm v) := ⟨(by decide : formatOf 0xC0#8 = .opIx),
  fun _ x8 h => immediate_length (w8 := x8) v h⟩
theorem cmpDpXInd (off : Byte) : Statement (.cmpDpXInd off) := ⟨(by decide : formatOf 0xC1#8 = .opB),
  fun _ _ _ => rfl⟩
theorem rep (mask : Byte) : Statement (.rep mask) := ⟨(by decide : formatOf 0xC2#8 = .opB),
  fun _ _ _ => rfl⟩
theorem cmpSr (off : Byte) : Statement (.cmpSr off) := ⟨(by decide : formatOf 0xC3#8 = .opB),
  fun _ _ _ => rfl⟩
theorem cpyDp (off : Byte) : Statement (.cpyDp off) := ⟨(by decide : formatOf 0xC4#8 = .opB),
  fun _ _ _ => rfl⟩
theorem cmpDp (off : Byte) : Statement (.cmpDp off) := ⟨(by decide : formatOf 0xC5#8 = .opB),
  fun _ _ _ => rfl⟩
theorem decDp (off : Byte) : Statement (.decDp off) := ⟨(by decide : formatOf 0xC6#8 = .opB),
  fun _ _ _ => rfl⟩
theorem cmpDpLong (off : Byte) : Statement (.cmpDpLong off) := ⟨(by decide : formatOf 0xC7#8 = .opB),
  fun _ _ _ => rfl⟩
theorem cmpImm (v : Imm) : Statement (.cmpImm v) := ⟨(by decide : formatOf 0xC9#8 = .opIm),
  fun m8 _ h => immediate_length (w8 := m8) v h⟩
theorem cpyAbs (aa : Word) : Statement (.cpyAbs aa) := ⟨(by decide : formatOf 0xCC#8 = .opW),
  fun _ _ _ => rfl⟩
theorem cmpAbs (aa : Word) : Statement (.cmpAbs aa) := ⟨(by decide : formatOf 0xCD#8 = .opW),
  fun _ _ _ => rfl⟩
theorem decAbs (aa : Word) : Statement (.decAbs aa) := ⟨(by decide : formatOf 0xCE#8 = .opW),
  fun _ _ _ => rfl⟩
theorem cmpLong (al : Addr) : Statement (.cmpLong al) := ⟨(by decide : formatOf 0xCF#8 = .opL),
  fun _ _ _ => rfl⟩
theorem bne (rel : Byte) : Statement (.bne rel) := ⟨(by decide : formatOf 0xD0#8 = .opB),
  fun _ _ _ => rfl⟩
theorem cmpDpIndY (off : Byte) : Statement (.cmpDpIndY off) := ⟨(by decide : formatOf 0xD1#8 = .opB),
  fun _ _ _ => rfl⟩
theorem cmpDpInd (off : Byte) : Statement (.cmpDpInd off) := ⟨(by decide : formatOf 0xD2#8 = .opB),
  fun _ _ _ => rfl⟩
theorem cmpSrIndY (off : Byte) : Statement (.cmpSrIndY off) := ⟨(by decide : formatOf 0xD3#8 = .opB),
  fun _ _ _ => rfl⟩
theorem pei (off : Byte) : Statement (.pei off) := ⟨(by decide : formatOf 0xD4#8 = .opB),
  fun _ _ _ => rfl⟩
theorem cmpDpX (off : Byte) : Statement (.cmpDpX off) := ⟨(by decide : formatOf 0xD5#8 = .opB),
  fun _ _ _ => rfl⟩
theorem decDpX (off : Byte) : Statement (.decDpX off) := ⟨(by decide : formatOf 0xD6#8 = .opB),
  fun _ _ _ => rfl⟩
theorem cmpDpLongY (off : Byte) : Statement (.cmpDpLongY off) := ⟨(by decide : formatOf 0xD7#8 = .opB),
  fun _ _ _ => rfl⟩
theorem cmpAbsY (aa : Word) : Statement (.cmpAbsY aa) := ⟨(by decide : formatOf 0xD9#8 = .opW),
  fun _ _ _ => rfl⟩
theorem jmlIndLong (aa : Word) : Statement (.jmlIndLong aa) := ⟨(by decide : formatOf 0xDC#8 = .opW),
  fun _ _ _ => rfl⟩
theorem cmpAbsX (aa : Word) : Statement (.cmpAbsX aa) := ⟨(by decide : formatOf 0xDD#8 = .opW),
  fun _ _ _ => rfl⟩
theorem decAbsX (aa : Word) : Statement (.decAbsX aa) := ⟨(by decide : formatOf 0xDE#8 = .opW),
  fun _ _ _ => rfl⟩
theorem cmpLongX (al : Addr) : Statement (.cmpLongX al) := ⟨(by decide : formatOf 0xDF#8 = .opL),
  fun _ _ _ => rfl⟩
theorem cpxImm (v : Imm) : Statement (.cpxImm v) := ⟨(by decide : formatOf 0xE0#8 = .opIx),
  fun _ x8 h => immediate_length (w8 := x8) v h⟩
theorem sbcDpXInd (off : Byte) : Statement (.sbcDpXInd off) := ⟨(by decide : formatOf 0xE1#8 = .opB),
  fun _ _ _ => rfl⟩
theorem sep (mask : Byte) : Statement (.sep mask) := ⟨(by decide : formatOf 0xE2#8 = .opB),
  fun _ _ _ => rfl⟩
theorem sbcSr (off : Byte) : Statement (.sbcSr off) := ⟨(by decide : formatOf 0xE3#8 = .opB),
  fun _ _ _ => rfl⟩
theorem cpxDp (off : Byte) : Statement (.cpxDp off) := ⟨(by decide : formatOf 0xE4#8 = .opB),
  fun _ _ _ => rfl⟩
theorem sbcDp (off : Byte) : Statement (.sbcDp off) := ⟨(by decide : formatOf 0xE5#8 = .opB),
  fun _ _ _ => rfl⟩
theorem incDp (off : Byte) : Statement (.incDp off) := ⟨(by decide : formatOf 0xE6#8 = .opB),
  fun _ _ _ => rfl⟩
theorem sbcDpLong (off : Byte) : Statement (.sbcDpLong off) := ⟨(by decide : formatOf 0xE7#8 = .opB),
  fun _ _ _ => rfl⟩
theorem sbcImm (v : Imm) : Statement (.sbcImm v) := ⟨(by decide : formatOf 0xE9#8 = .opIm),
  fun m8 _ h => immediate_length (w8 := m8) v h⟩
theorem cpxAbs (aa : Word) : Statement (.cpxAbs aa) := ⟨(by decide : formatOf 0xEC#8 = .opW),
  fun _ _ _ => rfl⟩
theorem sbcAbs (aa : Word) : Statement (.sbcAbs aa) := ⟨(by decide : formatOf 0xED#8 = .opW),
  fun _ _ _ => rfl⟩
theorem incAbs (aa : Word) : Statement (.incAbs aa) := ⟨(by decide : formatOf 0xEE#8 = .opW),
  fun _ _ _ => rfl⟩
theorem sbcLong (al : Addr) : Statement (.sbcLong al) := ⟨(by decide : formatOf 0xEF#8 = .opL),
  fun _ _ _ => rfl⟩
theorem beq (rel : Byte) : Statement (.beq rel) := ⟨(by decide : formatOf 0xF0#8 = .opB),
  fun _ _ _ => rfl⟩
theorem sbcDpIndY (off : Byte) : Statement (.sbcDpIndY off) := ⟨(by decide : formatOf 0xF1#8 = .opB),
  fun _ _ _ => rfl⟩
theorem sbcDpInd (off : Byte) : Statement (.sbcDpInd off) := ⟨(by decide : formatOf 0xF2#8 = .opB),
  fun _ _ _ => rfl⟩
theorem sbcSrIndY (off : Byte) : Statement (.sbcSrIndY off) := ⟨(by decide : formatOf 0xF3#8 = .opB),
  fun _ _ _ => rfl⟩
theorem pea (aa : Word) : Statement (.pea aa) := ⟨(by decide : formatOf 0xF4#8 = .opW),
  fun _ _ _ => rfl⟩
theorem sbcDpX (off : Byte) : Statement (.sbcDpX off) := ⟨(by decide : formatOf 0xF5#8 = .opB),
  fun _ _ _ => rfl⟩
theorem incDpX (off : Byte) : Statement (.incDpX off) := ⟨(by decide : formatOf 0xF6#8 = .opB),
  fun _ _ _ => rfl⟩
theorem sbcDpLongY (off : Byte) : Statement (.sbcDpLongY off) := ⟨(by decide : formatOf 0xF7#8 = .opB),
  fun _ _ _ => rfl⟩
theorem sbcAbsY (aa : Word) : Statement (.sbcAbsY aa) := ⟨(by decide : formatOf 0xF9#8 = .opW),
  fun _ _ _ => rfl⟩
theorem jsrXInd (aa : Word) : Statement (.jsrXInd aa) := ⟨(by decide : formatOf 0xFC#8 = .opW),
  fun _ _ _ => rfl⟩
theorem sbcAbsX (aa : Word) : Statement (.sbcAbsX aa) := ⟨(by decide : formatOf 0xFD#8 = .opW),
  fun _ _ _ => rfl⟩
theorem incAbsX (aa : Word) : Statement (.incAbsX aa) := ⟨(by decide : formatOf 0xFE#8 = .opW),
  fun _ _ _ => rfl⟩
theorem sbcLongX (al : Addr) : Statement (.sbcLongX al) := ⟨(by decide : formatOf 0xFF#8 = .opL),
  fun _ _ _ => rfl⟩
theorem php : Statement .php := ⟨(by decide : formatOf 0x08#8 = .op),
  fun _ _ _ => rfl⟩
theorem aslA : Statement .aslA := ⟨(by decide : formatOf 0x0A#8 = .op),
  fun _ _ _ => rfl⟩
theorem phd : Statement .phd := ⟨(by decide : formatOf 0x0B#8 = .op),
  fun _ _ _ => rfl⟩
theorem clc : Statement .clc := ⟨(by decide : formatOf 0x18#8 = .op),
  fun _ _ _ => rfl⟩
theorem incA : Statement .incA := ⟨(by decide : formatOf 0x1A#8 = .op),
  fun _ _ _ => rfl⟩
theorem tcs : Statement .tcs := ⟨(by decide : formatOf 0x1B#8 = .op),
  fun _ _ _ => rfl⟩
theorem plp : Statement .plp := ⟨(by decide : formatOf 0x28#8 = .op),
  fun _ _ _ => rfl⟩
theorem rolA : Statement .rolA := ⟨(by decide : formatOf 0x2A#8 = .op),
  fun _ _ _ => rfl⟩
theorem pld : Statement .pld := ⟨(by decide : formatOf 0x2B#8 = .op),
  fun _ _ _ => rfl⟩
theorem sec : Statement .sec := ⟨(by decide : formatOf 0x38#8 = .op),
  fun _ _ _ => rfl⟩
theorem decA : Statement .decA := ⟨(by decide : formatOf 0x3A#8 = .op),
  fun _ _ _ => rfl⟩
theorem tsc : Statement .tsc := ⟨(by decide : formatOf 0x3B#8 = .op),
  fun _ _ _ => rfl⟩
theorem rti : Statement .rti := ⟨(by decide : formatOf 0x40#8 = .op),
  fun _ _ _ => rfl⟩
theorem pha : Statement .pha := ⟨(by decide : formatOf 0x48#8 = .op),
  fun _ _ _ => rfl⟩
theorem lsrA : Statement .lsrA := ⟨(by decide : formatOf 0x4A#8 = .op),
  fun _ _ _ => rfl⟩
theorem phk : Statement .phk := ⟨(by decide : formatOf 0x4B#8 = .op),
  fun _ _ _ => rfl⟩
theorem cli : Statement .cli := ⟨(by decide : formatOf 0x58#8 = .op),
  fun _ _ _ => rfl⟩
theorem phy : Statement .phy := ⟨(by decide : formatOf 0x5A#8 = .op),
  fun _ _ _ => rfl⟩
theorem tcd : Statement .tcd := ⟨(by decide : formatOf 0x5B#8 = .op),
  fun _ _ _ => rfl⟩
theorem rts : Statement .rts := ⟨(by decide : formatOf 0x60#8 = .op),
  fun _ _ _ => rfl⟩
theorem pla : Statement .pla := ⟨(by decide : formatOf 0x68#8 = .op),
  fun _ _ _ => rfl⟩
theorem rorA : Statement .rorA := ⟨(by decide : formatOf 0x6A#8 = .op),
  fun _ _ _ => rfl⟩
theorem rtl : Statement .rtl := ⟨(by decide : formatOf 0x6B#8 = .op),
  fun _ _ _ => rfl⟩
theorem sei : Statement .sei := ⟨(by decide : formatOf 0x78#8 = .op),
  fun _ _ _ => rfl⟩
theorem ply : Statement .ply := ⟨(by decide : formatOf 0x7A#8 = .op),
  fun _ _ _ => rfl⟩
theorem tdc : Statement .tdc := ⟨(by decide : formatOf 0x7B#8 = .op),
  fun _ _ _ => rfl⟩
theorem dey : Statement .dey := ⟨(by decide : formatOf 0x88#8 = .op),
  fun _ _ _ => rfl⟩
theorem txa : Statement .txa := ⟨(by decide : formatOf 0x8A#8 = .op),
  fun _ _ _ => rfl⟩
theorem phb : Statement .phb := ⟨(by decide : formatOf 0x8B#8 = .op),
  fun _ _ _ => rfl⟩
theorem tya : Statement .tya := ⟨(by decide : formatOf 0x98#8 = .op),
  fun _ _ _ => rfl⟩
theorem txs : Statement .txs := ⟨(by decide : formatOf 0x9A#8 = .op),
  fun _ _ _ => rfl⟩
theorem txy : Statement .txy := ⟨(by decide : formatOf 0x9B#8 = .op),
  fun _ _ _ => rfl⟩
theorem tay : Statement .tay := ⟨(by decide : formatOf 0xA8#8 = .op),
  fun _ _ _ => rfl⟩
theorem tax : Statement .tax := ⟨(by decide : formatOf 0xAA#8 = .op),
  fun _ _ _ => rfl⟩
theorem plb : Statement .plb := ⟨(by decide : formatOf 0xAB#8 = .op),
  fun _ _ _ => rfl⟩
theorem clv : Statement .clv := ⟨(by decide : formatOf 0xB8#8 = .op),
  fun _ _ _ => rfl⟩
theorem tsx : Statement .tsx := ⟨(by decide : formatOf 0xBA#8 = .op),
  fun _ _ _ => rfl⟩
theorem tyx : Statement .tyx := ⟨(by decide : formatOf 0xBB#8 = .op),
  fun _ _ _ => rfl⟩
theorem iny : Statement .iny := ⟨(by decide : formatOf 0xC8#8 = .op),
  fun _ _ _ => rfl⟩
theorem dex : Statement .dex := ⟨(by decide : formatOf 0xCA#8 = .op),
  fun _ _ _ => rfl⟩
theorem wai : Statement .wai := ⟨(by decide : formatOf 0xCB#8 = .op),
  fun _ _ _ => rfl⟩
theorem cld : Statement .cld := ⟨(by decide : formatOf 0xD8#8 = .op),
  fun _ _ _ => rfl⟩
theorem phx : Statement .phx := ⟨(by decide : formatOf 0xDA#8 = .op),
  fun _ _ _ => rfl⟩
theorem stp : Statement .stp := ⟨(by decide : formatOf 0xDB#8 = .op),
  fun _ _ _ => rfl⟩
theorem inx : Statement .inx := ⟨(by decide : formatOf 0xE8#8 = .op),
  fun _ _ _ => rfl⟩
theorem nop : Statement .nop := ⟨(by decide : formatOf 0xEA#8 = .op),
  fun _ _ _ => rfl⟩
theorem xba : Statement .xba := ⟨(by decide : formatOf 0xEB#8 = .op),
  fun _ _ _ => rfl⟩
theorem sed : Statement .sed := ⟨(by decide : formatOf 0xF8#8 = .op),
  fun _ _ _ => rfl⟩
theorem plx : Statement .plx := ⟨(by decide : formatOf 0xFA#8 = .op),
  fun _ _ _ => rfl⟩
theorem xce : Statement .xce := ⟨(by decide : formatOf 0xFB#8 = .op),
  fun _ _ _ => rfl⟩

end Sys2Proof.Laws.EncodedForm
end

