-- ==== Sys2Proof/Tests/Slice0.lean ====
section
/-! SUPPORT. Tests: ill-formed instructions are refused, every opcode decodes as 30_encoding.md says, one step of the
vectors of 95_test_vectors.md (their labels S and V are in the names), the engine call by call, and for every statement
with hypotheses a witness that meets them. -/

namespace Sys2Proof.Tests

open Sys2Proof Sys2Proof.Machine Sys2Proof.Claims

/-! ## Well-formedness -/

/-- An immediate of one byte at M = 0, and of two at M = 1, is refused by each of the eight checks of OP_IM (R97). -/
theorem test_wellFormed_refuses_accumulator_width :
    [Instr.oraImm, .andImm, .eorImm, .adcImm, .bitImm, .ldaImm, .cmpImm, .sbcImm].all (fun i =>
      !(i (.b8 0x34#8)).wellFormed false true && !(i (.b16 0x1234#16)).wellFormed true false) = true := by decide

/-- An immediate of one byte at X_flag = 0, and of two at X_flag = 1, is refused by each of the four checks of OP_IX
(R97). -/
theorem test_wellFormed_refuses_index_width : [Instr.ldyImm, .ldxImm, .cpyImm, .cpxImm].all (fun i =>
      !(i (.b8 0x34#8)).wellFormed true false && !(i (.b16 0x1234#16)).wellFormed false true) = true := by decide

/-! ## Decoding -/

/-- Row `h` of the opcode map, on words written from the opcode table: the opcode in bits 7 to 0 and the operand bytes
0x34, 0x56 and 0x78 above it (R91). -/
def row (h : Nat) : List Instr :=
  (List.range 16).filterMap fun l => decodeTableWord 32 (0x78563400 + 16 * h + l)

/-- Row 0 of the opcode map (R101), at M = X_flag = 1. -/
theorem test_decode_row_0 : row 0x0 = [
    .brk 0x34#8, .oraDpXInd 0x34#8, .cop 0x34#8, .oraSr 0x34#8, .tsbDp 0x34#8, .oraDp 0x34#8, .aslDp 0x34#8,
    .oraDpLong 0x34#8, .php, .oraImm (.b8 0x34#8), .aslA, .phd, .tsbAbs 0x5634#16, .oraAbs 0x5634#16,
    .aslAbs 0x5634#16, .oraLong 0x785634#24] := by decide

/-- Row 1 of the opcode map (R101), at M = X_flag = 1. -/
theorem test_decode_row_1 : row 0x1 = [
    .bpl 0x34#8, .oraDpIndY 0x34#8, .oraDpInd 0x34#8, .oraSrIndY 0x34#8, .trbDp 0x34#8, .oraDpX 0x34#8,
    .aslDpX 0x34#8, .oraDpLongY 0x34#8, .clc, .oraAbsY 0x5634#16, .incA, .tcs, .trbAbs 0x5634#16,
    .oraAbsX 0x5634#16, .aslAbsX 0x5634#16, .oraLongX 0x785634#24] := by decide

/-- Row 2 of the opcode map (R101), at M = X_flag = 1. -/
theorem test_decode_row_2 : row 0x2 = [
    .jsrAbs 0x5634#16, .andDpXInd 0x34#8, .jsl 0x785634#24, .andSr 0x34#8, .bitDp 0x34#8, .andDp 0x34#8,
    .rolDp 0x34#8, .andDpLong 0x34#8, .plp, .andImm (.b8 0x34#8), .rolA, .pld, .bitAbs 0x5634#16,
    .andAbs 0x5634#16, .rolAbs 0x5634#16, .andLong 0x785634#24] := by decide

/-- Row 3 of the opcode map (R101), at M = X_flag = 1. -/
theorem test_decode_row_3 : row 0x3 = [
    .bmi 0x34#8, .andDpIndY 0x34#8, .andDpInd 0x34#8, .andSrIndY 0x34#8, .bitDpX 0x34#8, .andDpX 0x34#8,
    .rolDpX 0x34#8, .andDpLongY 0x34#8, .sec, .andAbsY 0x5634#16, .decA, .tsc, .bitAbsX 0x5634#16,
    .andAbsX 0x5634#16, .rolAbsX 0x5634#16, .andLongX 0x785634#24] := by decide

/-- Row 4 of the opcode map (R101), at M = X_flag = 1. -/
theorem test_decode_row_4 : row 0x4 = [
    .rti, .eorDpXInd 0x34#8, .wdm 0x34#8, .eorSr 0x34#8, .mvp 0x34#8 0x56#8, .eorDp 0x34#8, .lsrDp 0x34#8,
    .eorDpLong 0x34#8, .pha, .eorImm (.b8 0x34#8), .lsrA, .phk, .jmpAbs 0x5634#16, .eorAbs 0x5634#16,
    .lsrAbs 0x5634#16, .eorLong 0x785634#24] := by decide

/-- Row 5 of the opcode map (R101), at M = X_flag = 1. -/
theorem test_decode_row_5 : row 0x5 = [
    .bvc 0x34#8, .eorDpIndY 0x34#8, .eorDpInd 0x34#8, .eorSrIndY 0x34#8, .mvn 0x34#8 0x56#8, .eorDpX 0x34#8,
    .lsrDpX 0x34#8, .eorDpLongY 0x34#8, .cli, .eorAbsY 0x5634#16, .phy, .tcd, .jmlLong 0x785634#24,
    .eorAbsX 0x5634#16, .lsrAbsX 0x5634#16, .eorLongX 0x785634#24] := by decide

/-- Row 6 of the opcode map (R101), at M = X_flag = 1. -/
theorem test_decode_row_6 : row 0x6 = [
    .rts, .adcDpXInd 0x34#8, .per 0x5634#16, .adcSr 0x34#8, .stzDp 0x34#8, .adcDp 0x34#8, .rorDp 0x34#8,
    .adcDpLong 0x34#8, .pla, .adcImm (.b8 0x34#8), .rorA, .rtl, .jmpInd 0x5634#16, .adcAbs 0x5634#16,
    .rorAbs 0x5634#16, .adcLong 0x785634#24] := by decide

/-- Row 7 of the opcode map (R101), at M = X_flag = 1. -/
theorem test_decode_row_7 : row 0x7 = [
    .bvs 0x34#8, .adcDpIndY 0x34#8, .adcDpInd 0x34#8, .adcSrIndY 0x34#8, .stzDpX 0x34#8, .adcDpX 0x34#8,
    .rorDpX 0x34#8, .adcDpLongY 0x34#8, .sei, .adcAbsY 0x5634#16, .ply, .tdc, .jmpXInd 0x5634#16,
    .adcAbsX 0x5634#16, .rorAbsX 0x5634#16, .adcLongX 0x785634#24] := by decide

/-- Row 8 of the opcode map (R101), at M = X_flag = 1. -/
theorem test_decode_row_8 : row 0x8 = [
    .bra 0x34#8, .staDpXInd 0x34#8, .brl 0x5634#16, .staSr 0x34#8, .styDp 0x34#8, .staDp 0x34#8, .stxDp 0x34#8,
    .staDpLong 0x34#8, .dey, .bitImm (.b8 0x34#8), .txa, .phb, .styAbs 0x5634#16, .staAbs 0x5634#16,
    .stxAbs 0x5634#16, .staLong 0x785634#24] := by decide

/-- Row 9 of the opcode map (R101), at M = X_flag = 1. -/
theorem test_decode_row_9 : row 0x9 = [
    .bcc 0x34#8, .staDpIndY 0x34#8, .staDpInd 0x34#8, .staSrIndY 0x34#8, .styDpX 0x34#8, .staDpX 0x34#8,
    .stxDpY 0x34#8, .staDpLongY 0x34#8, .tya, .staAbsY 0x5634#16, .txs, .txy, .stzAbs 0x5634#16,
    .staAbsX 0x5634#16, .stzAbsX 0x5634#16, .staLongX 0x785634#24] := by decide

/-- Row A of the opcode map (R101), at M = X_flag = 1. -/
theorem test_decode_row_A : row 0xA = [
    .ldyImm (.b8 0x34#8), .ldaDpXInd 0x34#8, .ldxImm (.b8 0x34#8), .ldaSr 0x34#8, .ldyDp 0x34#8, .ldaDp 0x34#8,
    .ldxDp 0x34#8, .ldaDpLong 0x34#8, .tay, .ldaImm (.b8 0x34#8), .tax, .plb, .ldyAbs 0x5634#16,
    .ldaAbs 0x5634#16, .ldxAbs 0x5634#16, .ldaLong 0x785634#24] := by decide

/-- Row B of the opcode map (R101), at M = X_flag = 1. -/
theorem test_decode_row_B : row 0xB = [
    .bcs 0x34#8, .ldaDpIndY 0x34#8, .ldaDpInd 0x34#8, .ldaSrIndY 0x34#8, .ldyDpX 0x34#8, .ldaDpX 0x34#8,
    .ldxDpY 0x34#8, .ldaDpLongY 0x34#8, .clv, .ldaAbsY 0x5634#16, .tsx, .tyx, .ldyAbsX 0x5634#16,
    .ldaAbsX 0x5634#16, .ldxAbsY 0x5634#16, .ldaLongX 0x785634#24] := by decide

/-- Row C of the opcode map (R101), at M = X_flag = 1. -/
theorem test_decode_row_C : row 0xC = [
    .cpyImm (.b8 0x34#8), .cmpDpXInd 0x34#8, .rep 0x34#8, .cmpSr 0x34#8, .cpyDp 0x34#8, .cmpDp 0x34#8,
    .decDp 0x34#8, .cmpDpLong 0x34#8, .iny, .cmpImm (.b8 0x34#8), .dex, .wai, .cpyAbs 0x5634#16,
    .cmpAbs 0x5634#16, .decAbs 0x5634#16, .cmpLong 0x785634#24] := by decide

/-- Row D of the opcode map (R101), at M = X_flag = 1. -/
theorem test_decode_row_D : row 0xD = [
    .bne 0x34#8, .cmpDpIndY 0x34#8, .cmpDpInd 0x34#8, .cmpSrIndY 0x34#8, .pei 0x34#8, .cmpDpX 0x34#8,
    .decDpX 0x34#8, .cmpDpLongY 0x34#8, .cld, .cmpAbsY 0x5634#16, .phx, .stp, .jmlIndLong 0x5634#16,
    .cmpAbsX 0x5634#16, .decAbsX 0x5634#16, .cmpLongX 0x785634#24] := by decide

/-- Row E of the opcode map (R101), at M = X_flag = 1. -/
theorem test_decode_row_E : row 0xE = [
    .cpxImm (.b8 0x34#8), .sbcDpXInd 0x34#8, .sep 0x34#8, .sbcSr 0x34#8, .cpxDp 0x34#8, .sbcDp 0x34#8,
    .incDp 0x34#8, .sbcDpLong 0x34#8, .inx, .sbcImm (.b8 0x34#8), .nop, .xba, .cpxAbs 0x5634#16,
    .sbcAbs 0x5634#16, .incAbs 0x5634#16, .sbcLong 0x785634#24] := by decide

/-- Row F of the opcode map (R101), at M = X_flag = 1. -/
theorem test_decode_row_F : row 0xF = [
    .beq 0x34#8, .sbcDpIndY 0x34#8, .sbcDpInd 0x34#8, .sbcSrIndY 0x34#8, .pea 0x5634#16, .sbcDpX 0x34#8,
    .incDpX 0x34#8, .sbcDpLongY 0x34#8, .sed, .sbcAbsY 0x5634#16, .plx, .xce, .jsrXInd 0x5634#16,
    .sbcAbsX 0x5634#16, .incAbsX 0x5634#16, .sbcLongX 0x785634#24] := by decide

/-- The twelve immediates at M = X_flag = 0 take two bytes, low byte first (R92, R97). -/
theorem test_decode_immediates_16 : List.map (fun op => decodeOp false false op 0x34#8 0x12#8 0xEA#8)
    [0x09#8, 0x29#8, 0x49#8, 0x69#8, 0x89#8, 0xA0#8, 0xA2#8, 0xA9#8, 0xC0#8, 0xC9#8, 0xE0#8, 0xE9#8] = [
    .oraImm (.b16 0x1234#16), .andImm (.b16 0x1234#16), .eorImm (.b16 0x1234#16), .adcImm (.b16 0x1234#16),
    .bitImm (.b16 0x1234#16), .ldyImm (.b16 0x1234#16), .ldxImm (.b16 0x1234#16), .ldaImm (.b16 0x1234#16),
    .cpyImm (.b16 0x1234#16), .cmpImm (.b16 0x1234#16), .cpxImm (.b16 0x1234#16), .sbcImm (.b16 0x1234#16)] := by decide

/-- Where the bytes end within an instruction the decoder refuses by name, and where they go on it leaves the rest. -/
theorem test_decode_truncated : (match decode true true [0xAD#8, 0x34#8] with
    | .error (.truncated op) => op == 0xAD#8 | _ => false) = true ∧
    (match decode true true [0xA9#8, 0x34#8, 0xEA#8] with
    | .ok (i, rest) => i == .ldaImm (.b8 0x34#8) && rest == [0xEA#8] | _ => false) = true := by decide

/-! ## One step of the vectors of 95_test_vectors.md -/

/-- Native mode at 0x00:0x8000 with M = X_flag = 1 and the other flags 0. -/
def b : Regs := { Regs.reset with fE := false, pc := 0x8000, fI := false }
/-- The same with every flag but E set. -/
def f : Regs := { b with fN := true, fV := true, fD := true, fI := true, fZ := true, fC := true }
/-- M = 0. -/
def m16 (r : Regs) : Regs := { r with fM := false }
/-- X_flag = 0. -/
def x16 (r : Regs) : Regs := { r with fX := false }
/-- E = 1. -/
def em (r : Regs) : Regs := { r with fE := true }
/-- A Read. -/
def R (a : Nat) : BusCycle := .read (BitVec.ofNat 24 a)
/-- A Write. -/
def W (a v : Nat) : BusCycle := .write (BitVec.ofNat 24 a) (BitVec.ofNat 8 v)
/-- An Internal cycle. -/
def I : BusCycle := .internal

/-- A block at a boundary with these registers, an instruction at PB:PC and some bytes in memory. -/
def at' (r : Regs) (code : List Nat) (mem : List (Nat × Nat)) : State :=
  let m : Memory := mem.foldl (fun m p => Memory.set m p.1 (BitVec.ofNat 8 p.2)) []
  { State.reset with regs := r, mem := m }.placeCode (code.map (BitVec.ofNat 8))

/-- One step gives these registers, these bus cycles and these bytes. -/
def vec (r : Regs) (code : List Nat) (mem : List (Nat × Nat)) (post : Regs → Regs) (tr : List BusCycle)
    (after : List (Nat × Nat)) : Bool :=
  match step (at' r code mem) with
  | .next t => t.regs == post r && t.trace == tr && t.cont == .fetch &&
      after.all fun p => t.mem.get p.1 == BitVec.ofNat 8 p.2
  | _ => false

theorem test_S2_NOP : vec b [0xEA] []
    (fun r => { r with pc := 0x8001 }) [R 0x8000, I] [] = true := by decide
theorem test_S4_CLC : vec f [0x18] []
    (fun r => { r with fC := false, pc := 0x8001 }) [R 0x8000, I] [] = true := by decide
theorem test_S4_CLD : vec f [0xD8] []
    (fun r => { r with fD := false, pc := 0x8001 }) [R 0x8000, I] [] = true := by decide
theorem test_S4_CLI : vec f [0x58] []
    (fun r => { r with fI := false, pc := 0x8001 }) [R 0x8000, I] [] = true := by decide
theorem test_S4_CLV : vec f [0xB8] []
    (fun r => { r with fV := false, pc := 0x8001 }) [R 0x8000, I] [] = true := by decide
theorem test_S5b_ADC : vec (m16 { b with a := 0x8000 }) [0x69, 1, 0x80] []
    (fun r => { r with a := 1, fV := true, fC := true, pc := 0x8003 })
    [R 0x8000, R 0x8001, R 0x8002] [] = true := by decide
theorem test_S6_JSR : vec ({ b with pb := 0x12, pc := 0x3456, s := 0x188 }) [0x20, 0xCD, 0xAB] []
    (fun r => { r with pc := 0xABCD, s := 0x186 })
    [R 0x123456, R 0x123457, R 0x123458, I, W 0x188 0x34, W 0x187 0x58]
    [(0x188, 0x34), (0x187, 0x58)] = true := by decide
theorem test_S7_RTS : vec ({ b with s := 0x155 }) [0x60] [(0x156, 0xBB), (0x157, 0xAA)]
    (fun r => { r with pc := 0xAABC, s := 0x157 }) [R 0x8000, I, I, R 0x156, R 0x157, I] [] = true := by decide
theorem test_S8a_BRA : vec (em { b with pc := 0x80F0 }) [0x80, 2] []
    (fun r => { r with pc := 0x80F4 }) [R 0x80F0, R 0x80F1, I] [] = true := by decide
theorem test_S8b_BRA : vec (em { b with pc := 0x80F0 }) [0x80, 0x20] []
    (fun r => { r with pc := 0x8112 }) [R 0x80F0, R 0x80F1, I, I] [] = true := by decide
theorem test_V2_1_ADC : vec ({ b with a := 0x1201 }) [0x69, 0x7F] []
    (fun r => { r with a := 0x1280, fN := true, fV := true, pc := 0x8002 })
    [R 0x8000, R 0x8001] [] = true := by decide
theorem test_V2_4_SBC : vec ({ b with a := 0, fC := true }) [0xE9, 1] []
    (fun r => { r with a := 0xFF, fC := false, fN := true, pc := 0x8002 })
    [R 0x8000, R 0x8001] [] = true := by decide
theorem test_V2_5_SBC : vec (m16 { b with a := 0x8000, fC := true }) [0xE9, 1, 0] []
    (fun r => { r with a := 0x7FFF, fV := true, pc := 0x8003 })
    [R 0x8000, R 0x8001, R 0x8002] [] = true := by decide
theorem test_V2_6_CMP : vec ({ b with a := 0x10, fV := true }) [0xC9, 0x10] []
    (fun r => { r with fC := true, fZ := true, pc := 0x8002 }) [R 0x8000, R 0x8001] [] = true := by decide
theorem test_V2_7_CMP : vec (m16 { b with a := 1 }) [0xC9, 2, 0] []
    (fun r => { r with fN := true, pc := 0x8003 }) [R 0x8000, R 0x8001, R 0x8002] [] = true := by decide
theorem test_V2_8_CPX : vec (x16 { b with x := 0x1000 }) [0xE0, 0xFF, 0x0F] []
    (fun r => { r with fC := true, pc := 0x8003 }) [R 0x8000, R 0x8001, R 0x8002] [] = true := by decide
theorem test_V2_9_AND : vec ({ b with a := 0x55FF, fC := true, fV := true }) [0x29, 0] []
    (fun r => { r with a := 0x5500, fZ := true, pc := 0x8002 }) [R 0x8000, R 0x8001] [] = true := by decide
theorem test_V2_10_BIT : vec ({ b with a := 0x7F }) [0x89, 0x80] []
    (fun r => { r with fZ := true, pc := 0x8002 }) [R 0x8000, R 0x8001] [] = true := by decide
theorem test_V2_11_BIT : vec (m16 { b with a := 1 }) [0x2C, 0, 0x10] [(0x1001, 0x40)]
    (fun r => { r with fZ := true, fV := true, pc := 0x8003 })
    [R 0x8000, R 0x8001, R 0x8002, R 0x1000, R 0x1001] [] = true := by decide
theorem test_V2_12_ADC : vec ({ b with y := 1 }) [0x71, 0x10] [(0x10, 0xFF), (0x11, 0x20), (0x2100, 5)]
    (fun r => { r with a := 5, pc := 0x8002 })
    [R 0x8000, R 0x8001, R 0x10, R 0x11, I, R 0x2100] [] = true := by decide
theorem test_V2_13_ADC : vec ({ b with y := 0 }) [0x71, 0x10] [(0x10, 0xFF), (0x11, 0x20), (0x20FF, 5)]
    (fun r => { r with a := 5, pc := 0x8002 })
    [R 0x8000, R 0x8001, R 0x10, R 0x11, R 0x20FF] [] = true := by decide
theorem test_V3_1_ASL : vec ({ b with a := 0x3480 }) [0x0A] []
    (fun r => { r with a := 0x3400, fC := true, fZ := true, pc := 0x8001 }) [R 0x8000, I] [] = true := by decide
theorem test_V3_2_LSR : vec ({ b with db := 0x7E }) [0x4E, 0, 0x20] [(0x7E2000, 1)]
    (fun r => { r with fC := true, fZ := true, pc := 0x8003 })
    [R 0x8000, R 0x8001, R 0x8002, R 0x7E2000, I, W 0x7E2000 0] [(0x7E2000, 0)] = true := by decide
theorem test_V3_3_ROL : vec (m16 { b with fC := true }) [0x26, 0x10] [(0x11, 0x80)]
    (fun r => { r with fC := true, pc := 0x8002 })
    [R 0x8000, R 0x8001, R 0x10, R 0x11, I, W 0x11 0, W 0x10 1] [(0x10, 1), (0x11, 0)] = true := by decide
theorem test_V3_4_ROR : vec ({ b with a := 1, fC := true }) [0x6A] []
    (fun r => { r with a := 0x80, fN := true, pc := 0x8001 }) [R 0x8000, I] [] = true := by decide
theorem test_V3_5_INC : vec ({ b with x := 1 }) [0xFE, 0xFF, 0x10] [(0x1100, 0xFF)]
    (fun r => { r with fZ := true, pc := 0x8003 })
    [R 0x8000, R 0x8001, R 0x8002, I, R 0x1100, I, W 0x1100 0] [] = true := by decide
theorem test_V3_6_DEC : vec b [0xDE, 0, 0x10] []
    (fun r => { r with fN := true, pc := 0x8003 })
    [R 0x8000, R 0x8001, R 0x8002, I, R 0x1000, I, W 0x1000 0xFF] [(0x1000, 0xFF)] = true := by decide
theorem test_V3_7_DEC : vec (m16 b) [0x3A] []
    (fun r => { r with a := 0xFFFF, fN := true, pc := 0x8001 }) [R 0x8000, I] [] = true := by decide
theorem test_V3_9_DEY : vec b [0x88] []
    (fun r => { r with y := 0xFF, fN := true, pc := 0x8001 }) [R 0x8000, I] [] = true := by decide
theorem test_V3_10_TSB : vec ({ b with a := 1 }) [0x04, 0x20] [(0x20, 1)]
    (fun r => { r with pc := 0x8002 }) [R 0x8000, R 0x8001, R 0x20, I, W 0x20 1] [] = true := by decide
theorem test_V3_11_TRB : vec (m16 { b with a := 0xFF }) [0x1C, 0, 0x30] [(0x3000, 0x34), (0x3001, 0x12)]
    (fun r => { r with pc := 0x8003 })
    [R 0x8000, R 0x8001, R 0x8002, R 0x3000, R 0x3001, I, W 0x3001 0x12, W 0x3000 0] [] = true := by decide
theorem test_V4_1_LDA : vec ({ b with a := 0x1234 }) [0xA9, 0x80] []
    (fun r => { r with a := 0x1280, fN := true, pc := 0x8002 }) [R 0x8000, R 0x8001] [] = true := by decide
theorem test_V4_2_LDA : vec (m16 (x16 { b with x := 1 })) [0xBF, 0xFF, 0xFF, 0x7E] [(0x7F0000, 0x11), (0x7F0001, 0x22)]
    (fun r => { r with a := 0x2211, pc := 0x8004 })
    [R 0x8000, R 0x8001, R 0x8002, R 0x8003, R 0x7F0000, R 0x7F0001] [] = true := by decide
theorem test_V4_3_LDA : vec ({ b with y := 5 }) [0xB9, 0, 0x20] [(0x2005, 7)]
    (fun r => { r with a := 7, pc := 0x8003 }) [R 0x8000, R 0x8001, R 0x8002, R 0x2005] [] = true := by decide
theorem test_V4_4_LDA : vec (x16 { b with y := 5 }) [0xB9, 0, 0x20] [(0x2005, 7)]
    (fun r => { r with a := 7, pc := 0x8003 })
    [R 0x8000, R 0x8001, R 0x8002, I, R 0x2005] [] = true := by decide
theorem test_V4_5_STA : vec ({ b with a := 0x55 }) [0x9D, 0, 0x20] []
    (fun r => { r with pc := 0x8003 }) [R 0x8000, R 0x8001, R 0x8002, I, W 0x2000 0x55] [] = true := by decide
theorem test_V4_6_LDA : vec (em { b with s := 0x1F0 }) [0xA3, 2] [(0x1F2, 0x99)]
    (fun r => { r with a := 0x99, fN := true, pc := 0x8002 })
    [R 0x8000, R 0x8001, I, R 0x1F2] [] = true := by decide
theorem test_V4_7_STZ : vec (m16 { b with d := 1 }) [0x64, 0x10] [(0x11, 5)]
    (fun r => { r with pc := 0x8002 })
    [R 0x8000, R 0x8001, I, W 0x11 0, W 0x12 0] [(0x11, 0)] = true := by decide
theorem test_V4_8_LDA : vec (x16 { b with y := 0x101 }) [0xB7, 0x10] [(0x11, 0xFF), (0x12, 0x7E), (0x7F0001, 9)]
    (fun r => { r with a := 9, pc := 0x8002 })
    [R 0x8000, R 0x8001, R 0x10, R 0x11, R 0x12, R 0x7F0001] [] = true := by decide
theorem test_V4_9_LDA : vec (m16 (x16 { b with y := 1, db := 0x12 })) [0xB1, 0x10] [(0x10, 0xFF), (0x11, 0xFF), (0x120000, 3), (0x120001, 4)]
    (fun r => { r with a := 0x0403, pc := 0x8002 })
    [R 0x8000, R 0x8001, R 0x10, R 0x11, I, R 0x120000, R 0x120001] [] = true := by decide
theorem test_V4_10_STY : vec (x16 { b with y := 0x1234 }) [0x8C, 0xFF, 0xFF] []
    (fun r => { r with pc := 0x8003 })
    [R 0x8000, R 0x8001, R 0x8002, W 0xFFFF 0x34, W 0 0x12] [] = true := by decide
theorem test_V5_1_TAX : vec (x16 { b with a := 0x12FF }) [0xAA] []
    (fun r => { r with x := 0x12FF, pc := 0x8001 }) [R 0x8000, I] [] = true := by decide
theorem test_V5_2_TXA : vec (m16 { b with x := 0x85 }) [0x8A] []
    (fun r => { r with a := 0x85, pc := 0x8001 }) [R 0x8000, I] [] = true := by decide
theorem test_V5_3_TCS : vec (em { b with a := 0x1234 }) [0x1B] []
    (fun r => { r with s := 0x134, pc := 0x8001 }) [R 0x8000, I] [] = true := by decide
theorem test_V5_4_TSC : vec (em b) [0x3B] []
    (fun r => { r with a := 0x1FF, pc := 0x8001 }) [R 0x8000, I] [] = true := by decide
theorem test_V5_5_XBA : vec ({ b with a := 0x80FF }) [0xEB] []
    (fun r => { r with a := 0xFF80, fN := true, pc := 0x8001 }) [R 0x8000, I, I] [] = true := by decide
theorem test_V5_6_PHA : vec (m16 { b with a := 0x1234 }) [0x48] []
    (fun r => { r with s := 0x1FD, pc := 0x8001 })
    [R 0x8000, I, W 0x1FF 0x12, W 0x1FE 0x34] [] = true := by decide
theorem test_V5_7_PHX : vec (em { b with x := 0x42, s := 0x100 }) [0xDA] []
    (fun r => { r with s := 0x1FF, pc := 0x8001 }) [R 0x8000, I, W 0x100 0x42] [] = true := by decide
theorem test_V5_8_PHP : vec (em { b with fN := true, fC := true }) [0x08] []
    (fun r => { r with s := 0x1FE, pc := 0x8001 }) [R 0x8000, I, W 0x1FF 0xB1] [] = true := by decide
theorem test_V5_9_PLA : vec ({ b with s := 0x1FE, a := 0x1299 }) [0x68] [(0x1FF, 0)]
    (fun r => { r with a := 0x1200, fZ := true, s := 0x1FF, pc := 0x8001 })
    [R 0x8000, I, I, R 0x1FF] [] = true := by decide
theorem test_V5_10_PLP : vec (em { f with s := 0x1FE }) [0x28] []
    (fun _ => { em b with s := 0x1FF, pc := 0x8001 }) [R 0x8000, I, I, R 0x1FF] [] = true := by decide
theorem test_V5_11_PLP : vec (m16 (x16 { f with s := 0x1FE, x := 0x1234, y := 0xABCD })) [0x28] [(0x1FF, 0x30)]
    (fun _ => { b with s := 0x1FF, x := 0x34, y := 0xCD, pc := 0x8001 })
    [R 0x8000, I, I, R 0x1FF] [] = true := by decide
theorem test_V5_12_PLD : vec ({ b with s := 0x1FD }) [0x2B] [(0x1FF, 0x21)]
    (fun r => { r with d := 0x2100, s := 0x1FF, pc := 0x8001 })
    [R 0x8000, I, I, R 0x1FE, R 0x1FF] [] = true := by decide
theorem test_V5_13_PEA : vec ({ b with s := 0x1FFF }) [0xF4, 0x34, 0x12] []
    (fun r => { r with s := 0x1FFD, pc := 0x8003 })
    [R 0x8000, R 0x8001, R 0x8002, W 0x1FFF 0x12, W 0x1FFE 0x34] [] = true := by decide
theorem test_V5_14_PEI : vec ({ b with d := 1 }) [0xD4, 0x10] [(0x12, 0x80)]
    (fun r => { r with s := 0x1FD, pc := 0x8002 })
    [R 0x8000, R 0x8001, I, R 0x11, R 0x12, W 0x1FF 0x80, W 0x1FE 0] [] = true := by decide
theorem test_V5_15_PER : vec b [0x62, 0x10, 0] []
    (fun r => { r with s := 0x1FD, pc := 0x8003 })
    [R 0x8000, R 0x8001, R 0x8002, I, W 0x1FF 0x80, W 0x1FE 0x13] [] = true := by decide
theorem test_V5_16_MVP : vec (x16 { b with x := 0x10FF, y := 0x20FF }) [0x44, 1, 0] [(0x10FF, 0x77)]
    (fun r => { r with a := 0xFFFF, x := 0x10FE, y := 0x20FE, db := 1, pc := 0x8003 })
    [R 0x8000, R 0x8001, R 0x8002, R 0x10FF, W 0x120FF 0x77, I, I] [] = true := by decide
theorem test_V5_17_MVN : vec ({ b with x := 0xFF, y := 0x10 }) [0x54, 0, 0] []
    (fun r => { r with a := 0xFFFF, x := 0, y := 0x11, pc := 0x8003 })
    [R 0x8000, R 0x8001, R 0x8002, R 0xFF, W 0x10 0, I, I] [] = true := by decide
theorem test_R343_MVN : vec (x16 { b with a := 1, x := 0x1000, y := 0x2000 }) [0x54, 0x7F, 0x7E] [(0x7E1000, 5)]
    (fun r => { r with a := 0, x := 0x1001, y := 0x2001, db := 0x7F, pc := 0x8000 })
    [R 0x8000, R 0x8001, R 0x8002, R 0x7E1000, W 0x7F2000 5, I, I] [] = true := by decide
theorem test_V6_1_REP : vec (em f) [0xC2, 0xFF] []
    (fun _ => { em b with pc := 0x8002 }) [R 0x8000, R 0x8001, I] [] = true := by decide
theorem test_V6_2_REP : vec b [0xC2, 0x30] []
    (fun r => { r with fM := false, fX := false, pc := 0x8002 }) [R 0x8000, R 0x8001, I] [] = true := by decide
theorem test_V6_3_SEP : vec (x16 { b with x := 0x1234, y := 0xABCD }) [0xE2, 0x10] []
    (fun r => { r with fX := true, x := 0x34, y := 0xCD, pc := 0x8002 })
    [R 0x8000, R 0x8001, I] [] = true := by decide
theorem test_V6_4_SEP : vec b [0xE2, 8] []
    (fun r => { r with fD := true, pc := 0x8002 }) [R 0x8000, R 0x8001, I] [] = true := by decide
theorem test_V6_5_XCE : vec (em b) [0xFB] []
    (fun r => { r with fE := false, fC := true, pc := 0x8001 }) [R 0x8000, I] [] = true := by decide
theorem test_V6_6_XCE : vec (m16 (x16 { b with fC := true, x := 0x1234, s := 0x1FF0 })) [0xFB] []
    (fun r => { r with fE := true, fC := false, fM := true, fX := true, x := 0x34, s := 0x1F0, pc := 0x8001 })
    [R 0x8000, I] [] = true := by decide
theorem test_V7_1_BPL : vec b [0x10, 0x10] []
    (fun r => { r with pc := 0x8012 }) [R 0x8000, R 0x8001, I] [] = true := by decide
theorem test_V7_2_BCC : vec ({ b with fC := true }) [0x90, 0x10] []
    (fun r => { r with pc := 0x8002 }) [R 0x8000, R 0x8001] [] = true := by decide
theorem test_V7_3_BCS : vec (em ({ b with fC := true })) [0xB0, 0x80] []
    (fun r => { r with pc := 0x7F82 }) [R 0x8000, R 0x8001, I, I] [] = true := by decide
theorem test_V7_4_BCS : vec ({ b with fC := true }) [0xB0, 0x80] []
    (fun r => { r with pc := 0x7F82 }) [R 0x8000, R 0x8001, I] [] = true := by decide
theorem test_V7_5_BNE : vec ({ b with pc := 0xFFFE }) [0xD0, 1] []
    (fun r => { r with pc := 1 }) [R 0xFFFE, R 0xFFFF, I] [] = true := by decide
theorem test_V7_6_BRL : vec b [0x82, 0xFD, 0xFF] []
    (fun r => { r with pc := 0x8000 }) [R 0x8000, R 0x8001, R 0x8002, I] [] = true := by decide
theorem test_V7_7_JMP : vec b [0x4C, 0x34, 0x12] []
    (fun r => { r with pc := 0x1234 }) [R 0x8000, R 0x8001, R 0x8002] [] = true := by decide
theorem test_V7_8_JML : vec b [0x5C, 0, 0x10, 0x7E] []
    (fun r => { r with pc := 0x1000, pb := 0x7E })
    [R 0x8000, R 0x8001, R 0x8002, R 0x8003] [] = true := by decide
theorem test_V7_9_JMP : vec b [0x6C, 0, 3] [(0x301, 0x90)]
    (fun r => { r with pc := 0x9000 }) [R 0x8000, R 0x8001, R 0x8002, R 0x300, R 0x301] [] = true := by decide
theorem test_V7_10_JMP : vec ({ b with pb := 1, x := 4, pc := 0x9000 }) [0x7C, 0, 0x80] [(0x18004, 0x34), (0x18005, 0x12)]
    (fun r => { r with pc := 0x1234 })
    [R 0x19000, R 0x19001, R 0x19002, I, R 0x18004, R 0x18005] [] = true := by decide
theorem test_V7_11_JML : vec b [0xDC, 0x10, 0] [(0x11, 0x80), (0x12, 2)]
    (fun r => { r with pc := 0x8000, pb := 2 })
    [R 0x8000, R 0x8001, R 0x8002, R 0x10, R 0x11, R 0x12] [] = true := by decide
theorem test_V7_12_JSR : vec ({ b with x := 2 }) [0xFC, 0, 0xA0] [(0xA003, 0x90)]
    (fun r => { r with pc := 0x9000, s := 0x1FD })
    [R 0x8000, R 0x8001, W 0x1FF 0x80, W 0x1FE 2, R 0x8002, I, R 0xA002, R 0xA003] [] = true := by decide
theorem test_V7_13_JSL : vec b [0x22, 0, 0x80, 2] []
    (fun r => { r with pc := 0x8000, pb := 2, s := 0x1FC })
    [R 0x8000, R 0x8001, R 0x8002, W 0x1FF 0, I, R 0x8003, W 0x1FE 0x80, W 0x1FD 3] [] = true := by decide
theorem test_V7_14_RTL : vec ({ b with s := 0x1FC }) [0x6B] [(0x1FD, 3), (0x1FE, 0x80)]
    (fun r => { r with pc := 0x8004, s := 0x1FF })
    [R 0x8000, I, I, R 0x1FD, R 0x1FE, R 0x1FF] [] = true := by decide

/-- S3: INX wraps at its width. -/
theorem test_S3_INX : vec { b with x := 0xFF } [0xE8] [] (fun r => { r with x := 0, fZ := true, pc := 0x8001 })
      [R 0x8000, I] [] = true ∧
    vec (x16 { b with x := 0xFF }) [0xE8] [] (fun r => { r with x := 0x100, pc := 0x8001 }) [R 0x8000, I] [] = true := by
  decide

/-- V10: the number of cycles of LDA a,X and STA a,X with AA = 0x20F0, and of LDA dp by DL (R155 to R157). -/
theorem test_V10_cycles : [(true, 0x05), (true, 0x20), (false, 0x05), (false, 0x20)].map (fun p =>
      let r : Regs := { b with fX := p.1, x := p.2 }
      let n (s : State) : Nat := match step s with | .next t => t.trace.length | _ => 0
      (n (at' r [0xBD, 0xF0, 0x20] []), n (at' r [0x9D, 0xF0, 0x20] []))) = [(4, 5), (5, 5), (5, 5), (5, 5)] ∧
    [0x0000, 0x0100, 0x0180].map (fun d =>
      match step (at' { b with d := d } [0xA5, 0x12] []) with | .next t => t.trace.length | _ => 0) = [3, 3, 4] := by
  decide

/-- V10: the sum of direct,X wraps at 16 bits in bank 0. -/
theorem test_V10_LDA : vec { b with d := 0xFF00, x := 0x20 } [0xB5, 0xF0] [(0x10, 0x33)]
    (fun r => { r with a := 0x33, pc := 0x8002 }) [R 0x8000, R 0x8001, I, R 0x10] [] = true := by decide

/-- V8: the six excluded opcodes halt after their opcode fetch, and the next step answers the fault. -/
theorem test_V8_excluded : [0x00, 0x02, 0x40, 0x42, 0xCB, 0xDB].all (fun op =>
      match step (at' b [op] []) with
      | .next t => t.cont == .halted (.unimplementedOpcode (BitVec.ofNat 8 op) 0x00 0x8000) &&
          t.regs == { b with pc := 0x8001 } && t.trace == [R 0x8000] &&
          (match step t with | .fault g => g == .unimplementedOpcode (BitVec.ofNat 8 op) 0x00 0x8000 | _ => false)
      | _ => false) = true := by decide

/-- V11: SBC with D_flag = 1 and M = 0 performs its four cycles and then faults; A and the flags stay. -/
theorem test_V11_SBC : (match step (at' (m16 { b with fD := true, a := 7 }) [0xE5, 0x10] []) with
    | .next t => t.cont == .halted (.decimalUnsupported 0xE5 0x00 0x8000) && t.trace == [R 0x8000, R 0x8001, R 0x10, R 0x11]
        && t.regs == m16 { b with fD := true, a := 7, pc := 0x8002 }
    | _ => false) = true := by decide

/-- V11: CMP with D_flag = 1 compares in binary. -/
theorem test_V11_CMP : vec { b with fD := true, a := 2 } [0xC9, 0x01] []
    (fun r => { r with fC := true, pc := 0x8002 }) [R 0x8000, R 0x8001] [] = true := by decide

/-! ## The arithmetic and logic functions (V1) -/

theorem test_V1_add : addWithCarry 0x7F#8 0x01#8 false = { res := 0x80#8, c := false, v := true } ∧
    addWithCarry 0xFF#8 0xFF#8 true = { res := 0xFF#8, c := true, v := false } ∧
    addWithCarry 0xFFFF#16 0x0001#16 false = { res := 0x0000#16, c := true, v := false } ∧
    addWithCarry 0x80#8 0x80#8 false = { res := 0x00#8, c := true, v := true } := by decide

theorem test_V1_subtract : subWithBorrow 0x00#8 0x01#8 true = { res := 0xFF#8, c := false, v := false } ∧
    subWithBorrow 0x8000#16 0x0001#16 true = { res := 0x7FFF#16, c := true, v := true } ∧
    (subWithBorrow 0x05#8 0x05#8 false).res = 0xFF#8 ∧ (subWithBorrow 0x05#8 0x05#8 false).c = false := by decide

theorem test_V1_shifts : shl 0x8000#16 = { res := 0x0000#16, c := true } ∧ shr 0x01#8 = { res := 0x00#8, c := true } ∧
    Machine.rol 0x8000#16 true = { res := 0x0001#16, c := true } ∧
    Machine.ror 0x01#8 true = { res := 0x80#8, c := true } := by decide

theorem test_V1_counts_and_bits : inc 0xFFFF#16 = 0x0000#16 ∧ dec 0x00#8 = 0xFF#8 ∧
    setBits 0x00FF#16 0xFF00#16 = 0xFFFF#16 ∧ resetBits 0x00FF#16 0x1234#16 = 0x1200#16 ∧
    testZ 0x00FF#16 0xFF00#16 = true ∧ testZ 0x00FF#16 0x1234#16 = false := by decide

/-! ## The engine call by call -/

/-- V9: after the second call of LDA #$80 the snapshot still shows AL = 0; after the third, the fetch of the next opcode,
it shows 0x80. -/
theorem test_V9_write_back : let s := at' b [0xA9, 0x80, 0xEA] []
    (s.ticks 2).registers = { b with pc := 0x8002 } ∧ (s.ticks 2).abus = 0x008001#24 ∧
    (s.ticks 3).registers = { b with a := 0x80, fN := true, pc := 0x8003 } ∧ (s.ticks 3).abus = 0x008002#24 := by decide

/-- V9: LDA is not in `IMPL_SET_SRC` (R10): the second call faults. -/
theorem test_V9_implSetSrc : let s : State := { at' b [0xA9, 0x01] [] with implSet := Config.implSetSrc }
    s.tick.advance.1 = .fault (.unimplementedOpcode 0xA9 0x00 0x8000) := by decide +kernel

/-- V9: a reset discards the pending write-back (R493). -/
theorem test_V9_reset : let s := (at' b [0xA9, 0x80] []).ticks 2
    s.wb.isSome = true ∧ (s.resetTo 0x9000#16 ⟨0, 0, 0, false, false, false, false⟩ ⟨s.lat, s.abus, s.dbus⟩).wb = none ∧
    (s.resetTo 0x9000#16 ⟨0, 0, 0, false, false, false, false⟩ ⟨s.lat, s.abus, s.dbus⟩).tick.regs.a = 0#16 := by decide

/-- R62, V9: a host that leaves the slot alone after the opcode Read has the stale byte decoded: here the 0x00 of BRK. -/
theorem test_V9_stale_slot : let s : State := { at' b [0xEA] [] with dbus := 0x00#8 }
    s.advance.2.advance.1 = .fault (.unimplementedOpcode 0x00 0x00 0x8000) := by decide

/-- R211: RTL writes PC in its deferred write-back, so the snapshot before its last call shows PC0 + 1; so does the one of
JMP $9000 after its first operand byte, with that byte's increment. -/
theorem test_registers_deferred_pc : let s := (at' b [0x6B] []).ticks 5
    let t := (at' b [0x4C, 0x00, 0x90] []).ticks 2
    s.registers.pc = 0x8001#16 ∧ s.cont = .step 0x6B#8 6 ∧ t.registers.pc = 0x8002#16 ∧ t.cont = .step 0x4C#8 3 := by
  decide

/-- R494, 93 I14: a call before the first reset is refused and changes nothing. -/
theorem test_advance_before_reset :
    (State.powerOn (at' b [] []) [] Config.implSetAll).advance = (.refused .advanceBeforeReset, State.powerOn (at' b [] []) [] Config.implSetAll) ∧
    (launch 0x8000#16 [] Config.implSetAll ⟨0, 0, 0, false, false, false, false⟩ ⟨Latches.reset, 0, 0⟩).advance.1 = .read :=
  ⟨rfl, rfl⟩

/-- R508, log entry 21: before its first reset a block that stands at END_ADDR has not ended. -/
theorem test_runTo_before_reset : runTo 0x008000#24 0 (State.powerOn (at' b [] []) [] Config.implSetAll) =
    .stopped .advanceBeforeReset := by decide

/-- The word of the opcode table that is placed is what the next step runs. -/
theorem test_withFetchWord_LDA : (match step (State.reset.withFetchWord 16 0x80A9) with
    | .next t => t.regs.a == 0x0080#16 && t.regs.pc == 0x0002#16 && t.regs.fN
    | _ => false) = true := by decide

/-! ## Witnesses of the hypotheses of the statements -/

/-- Registers with both widths 8. -/
def s8 : State := at' b [] []
/-- Registers with both widths 16. -/
def s16 : State := at' (m16 (x16 b)) [] []
/-- A form of each list is dispatched. -/
def dispatched (s : State) (l : Byte → Word → Addr → List Form) : Bool :=
  (l 0x10#8 0x1234#16 0x123456#24).all fun f => s.dispatches f.op
/-- Whether opcodes are dispatched in both states. -/
def both (ops : List Byte) : Bool := ops.all fun op => s8.dispatches op && s16.dispatches op

/-- The widths of the two states: every statement's width hypotheses are met by one of them. -/
theorem witness_widths : s8.regs.fM = true ∧ s8.regs.fX = true ∧ s16.regs.fM = false ∧ s16.regs.fX = false := by decide

theorem witness_Loads : ([ldaForms, ldxForms, ldyForms].all fun l => dispatched s8 l && dispatched s16 l) = true ∧
    both [0xA9, 0xA2, 0xA0] = true := by decide
theorem witness_Stores : ([staForms, stxForms, styForms, stzForms].all fun l => dispatched s8 l && dispatched s16 l) =
    true := by decide
theorem witness_AddAndSubtract : ([adcForms, sbcForms].all fun l => dispatched s8 l && dispatched s16 l) = true ∧
    both [0x69, 0xE9] = true ∧ s8.regs.fD = false ∧ s16.regs.fD = false := by decide
theorem witness_DecimalFault : ([adcForms, sbcForms].all fun l => dispatched (at' f [] []) l) = true ∧
    (at' f [] []).regs.fD = true ∧ (at' f [] []).regs.fM = true ∧ (at' (m16 f) [] []).regs.fM = false ∧
    (at' (m16 f) [] []).regs.fD = true ∧ (at' (m16 f) [] []).dispatches 0x69#8 = true ∧
    (at' f [] []).dispatches 0x69#8 = true ∧ (at' f [] []).launched = true := by decide
theorem witness_Compares : ([cmpForms, cpxForms, cpyForms].all fun l => dispatched s8 l && dispatched s16 l) = true ∧
    both [0xC9, 0xE0, 0xC0] = true := by decide
theorem witness_Logic : ([andForms, oraForms, eorForms].all fun l => dispatched s8 l && dispatched s16 l) = true ∧
    both [0x29, 0x09, 0x49] = true := by decide
theorem witness_BitTest : (dispatched s8 bitForms && dispatched s16 bitForms && both [0x89]) = true := by decide
theorem witness_ShiftsAndRotates : ([aslForms, lsrForms, rolForms, rorForms].all fun l =>
    dispatched s8 l && dispatched s16 l) = true ∧ both [0x0A, 0x4A, 0x2A, 0x6A] = true := by decide
theorem witness_IncrementsAndDecrements : ([incForms, decForms].all fun l => dispatched s8 l && dispatched s16 l) =
    true ∧ both [0x1A, 0x3A] = true := by decide
theorem witness_TestAndSetBits : ([tsbForms, trbForms].all fun l => dispatched s8 l && dispatched s16 l) = true := by
  decide
theorem witness_IndexCounts : both [0xE8, 0xC8, 0xCA, 0x88] = true := by decide
theorem witness_Transfers : both [0xAA, 0xA8, 0x8A, 0x98, 0x9B, 0xBB, 0xBA] = true := by decide
theorem witness_WideTransfers : both [0x9A, 0x1B, 0x3B, 0x5B, 0x7B, 0xEB] = true := by decide
theorem witness_Pushes : both [0x48, 0xDA, 0x5A, 0x08, 0x8B, 0x4B, 0x0B] = true := by decide
theorem witness_Pulls : both [0x68, 0xFA, 0x7A, 0x28, 0xAB, 0x2B] = true := by decide
theorem witness_PushEffective : both [0xF4, 0xD4, 0x62] = true := by decide
theorem witness_BlockMoves : both [0x54, 0x44] = true ∧ s8.regs.a = 0x0000#16 := by decide
theorem witness_FlagInstructions : both [0x18, 0x38, 0xD8, 0xF8, 0x58, 0x78, 0xB8, 0xEA] = true := by decide
theorem witness_StatusMasks : both [0xC2, 0xE2] = true := by decide
theorem witness_ExchangeCarryEmulation : both [0xFB] = true ∧ s8.regs.fC = false ∧ (at' f [] []).regs.fC = true ∧
    (at' f [] []).dispatches 0xFB#8 = true := by decide
theorem witness_ShortBranches : both [0x10, 0x30, 0x50, 0x70, 0x90, 0xB0, 0xD0, 0xF0, 0x80] = true := by decide
theorem witness_LongBranchAndJumps : both [0x82, 0x4C, 0x5C, 0x6C, 0x7C, 0xDC] = true := by decide

/-- Both cases of the last operand byte: a stack elsewhere, and one whose push lands on that byte. -/
theorem witness_Calls : both [0x20, 0xFC, 0x22] = true ∧
    addr 0x00#8 s8.regs.s ≠ addr s8.regs.pb (s8.regs.pc + 2#16) ∧
    addr 0x00#8 (at' { b with s := 0x8002 } [] []).regs.s = addr s8.regs.pb (s8.regs.pc + 2#16) ∧
    addr 0x00#8 (at' { b with s := 0x8003 } [] []).regs.s = addr s8.regs.pb (s8.regs.pc + 3#16) := by decide
theorem witness_Returns : both [0x60, 0x6B] = true := by decide

/-- The registers after reset are in the invariant. -/
theorem witness_regs_ok : State.reset.regs.Ok := ⟨fun _ => ⟨rfl, rfl, by decide⟩, fun _ => ⟨by decide, by decide⟩⟩
theorem witness_StatusByte : b.fE = false ∧ (em b).fE = true ∧ State.reset.regs.Ok :=
  ⟨by decide, by decide, witness_regs_ok⟩
theorem witness_CallReturnRoundTrip : State.reset.regs.Ok ∧ State.reset.mem.wf = true ∧
    State.reset.dispatches 0x60#8 = true ∧ State.reset.dispatches 0x6B#8 = true ∧ State.reset.dispatches 0x20#8 = true ∧
    State.reset.dispatches 0xFC#8 = true ∧ State.reset.dispatches 0x22#8 = true ∧
    (∃ t u, exec (.jsrAbs 0x9000#16) State.reset = .next t ∧ exec .rts t = .next u) ∧
    (∃ t u, exec (.jsrXInd 0x9000#16) State.reset = .next t ∧ exec .rts t = .next u) ∧
    (∃ t u, exec (.jsl 0x029000#24) State.reset = .next t ∧ exec .rtl t = .next u) :=
  ⟨witness_regs_ok, by decide, by decide, by decide, by decide, by decide, by decide,
    ⟨_, _, rfl, rfl⟩, ⟨_, _, rfl, rfl⟩, ⟨_, _, rfl, rfl⟩⟩

theorem witness_UnimplementedOpcodes :
    ({ s8 with implSet := Config.implSetSrc } : State).implSet.getLsbD (Instr.ldaImm (.b8 0x01#8)).opcode.toNat = false ∧
    Instr.rti.opcode ∈ Config.excludedOpcodes := by decide +kernel

/-- A store and its next state. -/
theorem witness_MemoryIsTheTrace : ∃ t, exec (.staAbs 0x2000#16) s8 = .next t := ⟨_, rfl⟩
/-- An address outside the two stored bytes, at either width, the state after it, and a load. -/
theorem witness_MemoryFrame : (∃ t, exec (.staAbs 0x2000#16) s16 = .next t) ∧ s16.regs.fM = false ∧
    (⟨.staAbs 0x2000#16, 0x8D#8, .abs, bytesW 0x2000#16⟩ : Form) ∈ staForms 0x10#8 0x2000#16 0x123456#24 ∧
    (0x002002#24 : Addr) ≠ (s16.effAddr .abs (bytesW 0x2000#16)).lo ∧
    (0x002002#24 : Addr) ≠ (s16.effAddr .abs (bytesW 0x2000#16)).hi ∧
    (∃ t, exec (.stxAbs 0x2000#16) s16 = .next t) ∧ s16.regs.fX = false ∧
    (⟨.stxAbs 0x2000#16, 0x8E#8, .abs, bytesW 0x2000#16⟩ : Form) ∈ stxForms 0x10#8 0x2000#16 0x123456#24 ∧
    (∃ t, exec (.ldaAbs 0x2000#16) s16 = .next t) ∧
    (⟨.ldaAbs 0x2000#16, 0xAD#8, .abs, bytesW 0x2000#16⟩ : Form) ∈ ldaForms 0x10#8 0x2000#16 0x123456#24 :=
  ⟨⟨_, rfl⟩, rfl, by simp [staForms], by decide, by decide, ⟨_, rfl⟩, rfl, by simp [stxForms], ⟨_, rfl⟩,
    by simp [ldaForms]⟩
/-- An instruction other than XCE in emulation mode, with its next state. -/
theorem witness_EmulationForcesWidths : (∃ t, exec .nop State.reset = .next t ∧ t.regs.fE = true) ∧ Instr.nop ≠ .xce ∧
    State.reset.regs.fE = true ∧ State.reset.regs.Ok := ⟨⟨_, rfl, rfl⟩, by decide, rfl, witness_regs_ok⟩
/-- NOP is no writer of a bank register, nor of any flag. -/
theorem witness_BankAndDirectWriters : (∃ t, exec .nop s8 = .next t) ∧
    Instr.nop.opcode ∉ [0xAB#8, 0x54#8, 0x44#8, 0x5B#8, 0x2B#8, 0x5C#8, 0xDC#8, 0x22#8, 0x6B#8] :=
  ⟨⟨_, rfl⟩, by decide⟩
theorem witness_FlagWriters : (∃ t, exec .nop s8 = .next t) ∧
    Instr.nop.opcode ∉ writersN ++ writersV ++ writersM ++ writersD ++ writersI ++ writersZ ++ writersC ++ [0xFB#8] :=
  ⟨⟨_, rfl⟩, by decide⟩
/-- All three ends. -/
theorem witness_OnlyTwoFaults : (∃ t, exec .nop s8 = .next t ∧ t.cont = .fetch) ∧
    (∃ t, exec .rti s8 = .next t ∧ t.cont = .halted (.unimplementedOpcode 0x40#8 0x00#8 0x8000#16)) ∧
    (∃ t, exec (.adcImm (.b8 0x01#8)) (at' f [] []) = .next t ∧
      t.cont = .halted (.decimalUnsupported 0x69#8 0x00#8 0x8000#16)) :=
  ⟨⟨_, rfl, by decide⟩, ⟨_, rfl, by decide⟩, ⟨_, rfl, by decide⟩⟩

/-- A boundary with a pending write-back. -/
def pending : State := (at' b [0xA9, 0x80] []).ticks 2
/-- A boundary whose pending write-back faults: ADC #$01 with D_flag = 1. -/
def faulting : State := (at' f [0x69, 0x01] []).ticks 2

theorem witness_boundary : s8.AtBoundary ∧ s16.AtBoundary := ⟨⟨rfl, rfl, rfl⟩, ⟨rfl, rfl, rfl⟩⟩
theorem witness_StepRunsDecoded : s8.AtBoundary ∧ (∃ i rest, decode s8.regs.fM s8.regs.fX
      [s8.codeByte 0, s8.codeByte 1, s8.codeByte 2, s8.codeByte 3] = .ok (i, rest)) ∧
    (pending.launched = true ∧ pending.cont = .fetch ∧ ∃ c, pending.commit = .ok c) ∧
    (faulting.launched = true ∧ faulting.cont = .fetch ∧
      faulting.commit = .error (.decimalUnsupported 0x69#8 0x00#8 0x8000#16)) :=
  ⟨witness_boundary.1, ⟨_, _, rfl⟩, ⟨rfl, rfl, _, rfl⟩, ⟨rfl, rfl, rfl⟩⟩
/-- An instruction of each immediate width; the last one lies across the end of the bank. -/
theorem witness_PlacedInstructionRuns : s8.AtBoundary ∧ s8.mem.wf = true ∧
    (Instr.ldaImm (.b8 0x80#8)).wellFormed s8.regs.fM s8.regs.fX = true ∧
    (Instr.ldaImm (.b16 0x8000#16)).wellFormed s16.regs.fM s16.regs.fX = true ∧
    (at' { b with pc := 0xFFFF } [] []).AtBoundary ∧ (at' { b with pc := 0xFFFF } [] []).mem.wf = true ∧
    (Instr.jsl 0x123456#24).wellFormed true true = true :=
  ⟨witness_boundary.1, by decide, by decide, by decide, ⟨rfl, rfl, rfl⟩, by decide, rfl⟩
theorem witness_StepIsTicks : s8.AtBoundary := witness_boundary.1
/-- JSL has eight cycles: a pause after the first, and after the last but one. -/
theorem witness_PausedStepIsTheStep : (at' b [0x22, 0x00, 0x80, 0x02] []).AtBoundary ∧
    (∃ t, step (at' b [0x22, 0x00, 0x80, 0x02] []) = .next t ∧ t.trace.length = 8) ∧ 0 < 1 ∧ 7 < 8 :=
  ⟨⟨rfl, rfl, rfl⟩, ⟨_, rfl, by decide⟩, by decide, by decide⟩
theorem witness_OpcodeFetch : (pending.launched = true ∧ pending.cont = .fetch ∧ ∃ c, pending.commit = .ok c) ∧
    (faulting.launched = true ∧ faulting.cont = .fetch ∧ ∃ g, faulting.commit = .error g) :=
  ⟨⟨rfl, rfl, _, rfl⟩, ⟨rfl, rfl, _, rfl⟩⟩
theorem witness_DecodeFault : (s8.advance.2.supply 0x40#8).launched = true ∧ (s8.advance.2.supply 0x40#8).cont = .decode ∧
    (s8.advance.2.supply 0x40#8).dispatches (s8.advance.2.supply 0x40#8).dbus = false := by decide
theorem witness_HaltedStays : (∃ g, (s8.rejectOpcode 0x40#8).cont = .halted g) ∧ (s8.rejectOpcode 0x40#8).launched = true :=
  ⟨⟨_, rfl⟩, rfl⟩
/-- A boundary with a pending write-back, one without, and a block in the middle of RTL. -/
theorem witness_WriteBackLatency : pending.launched = true ∧ pending.cont = .fetch ∧ (∃ c, pending.commit = .ok c) ∧
    s8.wb = none ∧ ((at' b [0x6B] []).ticks 5).cont = .step 0x6B#8 6 ∧ (0x6B#8) ∈ [0x5C#8, 0xDC#8, 0x6B#8] :=
  ⟨rfl, rfl, ⟨_, rfl⟩, rfl, rfl, by decide⟩

theorem witness_inv : State.reset.Inv := 
  ⟨witness_regs_ok, by decide, fun _ _ h => (by cases h), fun _ h => (by cases h)⟩
theorem witness_InvariantAtReset : s16.mem.wf = true := by decide
theorem witness_InvariantStep : State.reset.Inv ∧ ∃ t, step State.reset = .next t := ⟨witness_inv, ⟨_, rfl⟩⟩
theorem witness_InvariantAdvance : State.reset.Inv := witness_inv
theorem witness_NoStepBeforeReset : (State.powerOn s8 [] Config.implSetAll).launched = false := rfl
/-- A run that has ended, one that has faulted, a boundary at END_ADDR, and a block before its first reset there. -/
theorem witness_RunEnds : (∃ t, runTo 0x008000#24 0 s8 = .ended t) ∧
    (∃ g t, runTo 0x009000#24 1 s8 = .faulted g t) ∧
    s8.launched = true ∧ s8.cont = .fetch ∧ s8.commit = .ok s8 ∧ addr s8.regs.pb s8.regs.pc = 0x008000#24 ∧
    (State.powerOn s8 [] Config.implSetAll).launched = false :=
  ⟨⟨_, rfl⟩, ⟨_, _, rfl⟩, rfl, rfl, rfl, by decide, rfl⟩
theorem witness_ImplementedOpcodes : State.reset.implSet = Config.implSetAll ∧
    Config.implSetSrc.getLsbD (0x01#8).toNat = true ∧ (0x00#8) ∈ [0x00#8, 0x02#8, 0x40#8, 0x42#8, 0xCB#8, 0xDB#8] ∧
    (0xA9#8) ∉ [0x00#8, 0x02#8, 0x40#8, 0x42#8, 0xCB#8, 0xDB#8] := by decide +kernel
theorem witness_DecodeEncode : (Instr.ldaImm (.b16 0x1234#16)).wellFormed false true = true ∧
    (Instr.ldaImm (.b8 0x12#8)).wellFormed true false = true := by decide
theorem witness_EncodeDecode : (∃ i rest, decode true true [0xEA#8] = .ok (i, rest)) ∧
    4 ≤ [0x00#8, 0x00#8, 0x00#8, 0x00#8].length := ⟨⟨_, _, rfl⟩, by decide⟩
theorem witness_Lengths : (Instr.ldaImm (.b8 0x12#8)).wellFormed true false = true ∧
    (Instr.cpxImm (.b16 0x1234#16)).wellFormed true false = true ∧ Instr.nop.wellFormed true false = true := by decide
theorem witness_arithmetic_widths : (8 = 8 ∨ 8 = 16) ∧ (16 = 8 ∨ 16 = 16) := by decide
theorem witness_StackPointerSteps : b.fE = false ∧ (em b).fE = true := by decide

end Sys2Proof.Tests
end

section
/-! The bus trace accounts for memory (00_scope.md R14; 20_memory.md R61, R64, R77). -/

namespace Sys2Proof.Claims

open Sys2Proof.Machine

@[simp] theorem applyWrites_nil (m : Memory) : applyWrites [] m = m := rfl
@[simp] theorem applyWrites_read (a : Addr) (tr : List BusCycle) (m : Memory) :
    applyWrites (.read a :: tr) m = applyWrites tr m := rfl
@[simp] theorem applyWrites_write (a : Addr) (v : Byte) (tr : List BusCycle) (m : Memory) :
    applyWrites (.write a v :: tr) m = applyWrites tr (m.set a.toNat v) := rfl
@[simp] theorem applyWrites_internal (tr : List BusCycle) (m : Memory) :
    applyWrites (.internal :: tr) m = applyWrites tr m := rfl

/-- Two traces in a row are performed one after the other. -/
theorem applyWrites_append (tr₁ tr₂ : List BusCycle) (m : Memory) :
    applyWrites (tr₁ ++ tr₂) m = applyWrites tr₂ (applyWrites tr₁ m) := by
  induction tr₁ generalizing m with
  | nil => rfl
  | cons c tr ih => cases c <;> exact ih _

end Sys2Proof.Claims

namespace Sys2Proof.Machine

open Sys2Proof.Claims

/-- The memory is the memory `m` with the Writes recorded in the trace performed on it: between two rows this holds for
the memory `m` before the instruction. -/
def State.MemFrom (m : Memory) (s : State) : Prop := s.mem = applyWrites s.trace m

section
variable {m : Memory} {s : State}

theorem State.MemFrom.cycRead (h : s.MemFrom m) (a : Addr) (r : Regs) : (s.cycRead a r).MemFrom m := by
  simpa [State.MemFrom, applyWrites_append] using h

theorem State.MemFrom.cycIdle (h : s.MemFrom m) (r : Regs) : (s.cycIdle r).MemFrom m := by
  simpa [State.MemFrom, applyWrites_append] using h

/-- A Write cycle puts the byte into the trace, and the host's store puts it into the memory. -/
theorem State.MemFrom.cycWrite_store (h : s.MemFrom m) (a : Addr) (v : Byte) (r : Regs) :
    (s.cycWrite a v r).store.MemFrom m := by
  unfold State.MemFrom at h
  simp [State.MemFrom, applyWrites_append, h]

theorem State.MemFrom.consume (h : s.MemFrom m) : s.consume.MemFrom m := by
  simpa [State.MemFrom] using h

/-- The deferred write-back reaches registers and continuation only, faulting or not. -/
theorem State.MemFrom.settle (h : s.MemFrom m) (wb : Option (Byte → Except Fault Regs)) (b : Byte) :
    (s.settle wb b).MemFrom m := by
  cases wb with
  | none => exact h
  | some f => rw [State.settle_some]; split <;> exact h

/-- A run keeps memory and trace together. -/
theorem Prog.run_memFrom (p : Prog) (code : List Byte) (h : s.MemFrom m) : (p.run code s).MemFrom m := by
  induction p generalizing code s with
  | read src a r k ih => exact ih _ _ (h.cycRead a r).consume
  | readLast src a r wb =>
    rw [Prog.run_readLast]
    refine State.MemFrom.settle ?_ wb _
    exact h.cycRead a r
  | write a v r k ih => exact ih _ (h.cycWrite_store a v r)
  | writeLast a v r => exact h.cycWrite_store a v r
  | idle r k ih => exact ih _ (h.cycIdle r)
  | idleLast r => exact h.cycIdle r

theorem State.fetchOpcode_memFrom (op : Byte) : (s.fetchOpcode op).MemFrom s.mem := rfl

theorem State.rejectOpcode_memFrom (op : Byte) : (s.rejectOpcode op).MemFrom s.mem := rfl

end

/-- Settles O29: the opcode fetch starts the trace with memory untouched, and the run of the instruction's rows keeps
memory and trace together. -/
theorem memoryIsTheTrace : Obligations.MemoryIsTheTrace := by
  intro i s t h
  obtain ⟨p, -, -, rfl⟩ | rfl := exec_cases h
  · exact Prog.run_memFrom _ _ (State.fetchOpcode_memFrom _)
  · exact State.rejectOpcode_memFrom _

end Sys2Proof.Machine
end

section
/-! Which opcodes are dispatched (00_scope.md R9, R10; 30_encoding.md R99; 49_excluded.md R436). -/

namespace Sys2Proof.Config

/-- Adding opcodes to a set one by one adds just those below 256. -/
theorem getLsbD_foldl_twoPow (ops : List Nat) (acc : BitVec 256) (k : Nat) :
    (ops.foldl (fun acc k => acc ||| BitVec.twoPow 256 k) acc).getLsbD k = true ↔
      acc.getLsbD k = true ∨ k < 256 ∧ k ∈ ops := by
  induction ops generalizing acc with
  | nil => simp
  | cons op ops ih =>
    rw [List.foldl_cons, ih]
    simp only [BitVec.getLsbD_or, BitVec.getLsbD_twoPow, Bool.or_eq_true, Bool.and_eq_true, decide_eq_true_eq,
      List.mem_cons]
    grind

theorem getLsbD_opcodeSet (ops : List Nat) (k : Nat) :
    (opcodeSet ops).getLsbD k = true ↔ k < 256 ∧ k ∈ ops := by
  simp [opcodeSet, getLsbD_foldl_twoPow]

/-- The set that `implSetAll` takes away is that of the excluded opcodes. -/
theorem getLsbD_opcodeSet_excluded (op : Byte) :
    (opcodeSet [0x00, 0x02, 0x40, 0x42, 0xCB, 0xDB]).getLsbD op.toNat = true ↔ op ∈ excludedOpcodes := by
  have hlt : op.toNat < 256 := op.isLt
  rw [getLsbD_opcodeSet]
  simp [hlt, excludedOpcodes, ← BitVec.toNat_inj]

theorem getLsbD_implSetAll (op : Byte) : implSetAll.getLsbD op.toNat = true ↔ op ∉ excludedOpcodes := by
  have hlt : op.toNat < 256 := op.isLt
  rw [← getLsbD_opcodeSet_excluded, implSetAll, BitVec.getLsbD_and, BitVec.getLsbD_not, BitVec.getLsbD_allOnes]
  simp only [hlt, decide_true, Bool.true_and, Bool.not_eq_true', Bool.not_eq_true]

/-- `IMPL_SET_SRC` names none of the excluded opcodes. -/
theorem getLsbD_implSetSrc_excluded : ∀ op ∈ excludedOpcodes, ¬ implSetSrc.getLsbD op.toNat = true := by
  simp only [implSetSrc, getLsbD_opcodeSet]
  decide

theorem getLsbD_implSetAll_of_implSetSrc {op : Byte} (h : implSetSrc.getLsbD op.toNat = true) :
    implSetAll.getLsbD op.toNat = true :=
  (getLsbD_implSetAll op).2 fun hop => getLsbD_implSetSrc_excluded op hop h

end Sys2Proof.Config

namespace Sys2Proof.Machine

open Sys2Proof.Config

theorem State.dispatches_iff (s : State) (op : Byte) :
    s.dispatches op = true ↔ s.implSet.getLsbD op.toNat = true ∧ op ∉ excludedOpcodes := by
  simp [State.dispatches]

/-- The dispatch table has an entry for every opcode but the excluded ones: a look at each of its 256 entries. -/
theorem progOf_isSome_iff (op : Byte) : (progOf op).isSome = true ↔ op ∉ excludedOpcodes := by
  revert op; decide

/-- Settles O51: `dispatches`, the dispatch table and the default `IMPL_SET` each leave out the excluded opcodes. -/
theorem implementedOpcodes : Obligations.ImplementedOpcodes := by
  intro s op
  refine ⟨fun hop => ⟨?_, ?_⟩, fun hop => ⟨(progOf_isSome_iff op).2 hop, fun hs => ?_⟩,
    getLsbD_implSetAll_of_implSetSrc⟩
  · exact Bool.eq_false_iff.2 fun hd => ((s.dispatches_iff op).1 hd).2 hop
  · simpa using mt (progOf_isSome_iff op).1 (not_not_intro hop)
  · exact (s.dispatches_iff op).2 ⟨hs ▸ (getLsbD_implSetAll op).2 hop, hop⟩

end Sys2Proof.Machine
end

section
/-! What each instruction may write in the register file (10_state.md R22 to R28, R31 to R38). Every change a program
makes is a sequence of the writes of `RegWrite`; which of them an opcode may make is what the rules list for it. The
invariants and frames of 10_state.md are properties that these writes keep. -/

namespace Sys2Proof.Machine

open Sys2Proof.Claims

/-! ## The writes of the register file -/

/-- The kinds of write to the register file: a register, a flag, the whole status byte (R369), or the exchange of C and E
with what it forces (R370, R371). -/
inductive RegWrite where
  | pc | a | x | y | s | db | d | pb | n | v | z | c | dec | irq | status | exchange

/-- The property survives every write of this kind. S is written through `setS` (R28), and X and Y with their high bytes
left where the index width is 8 (R22). -/
def RegWrite.Keeps (P : Regs → Prop) : RegWrite → Prop
  | .pc => ∀ q w, P q → P { q with pc := w }
  | .a => ∀ q w, P q → P { q with a := w }
  | .x => ∀ q w, P q → (q.fX = true → hi8 w = hi8 q.x) → P { q with x := w }
  | .y => ∀ q w, P q → (q.fX = true → hi8 w = hi8 q.y) → P { q with y := w }
  | .s => ∀ q w, P q → P (q.setS w)
  | .db => ∀ q b, P q → P { q with db := b }
  | .d => ∀ q w, P q → P { q with d := w }
  | .pb => ∀ q b, P q → P { q with pb := b }
  | .n => ∀ q b, P q → P { q with fN := b }
  | .v => ∀ q b, P q → P { q with fV := b }
  | .z => ∀ q b, P q → P { q with fZ := b }
  | .c => ∀ q b, P q → P { q with fC := b }
  | .dec => ∀ q b, P q → P { q with fD := b }
  | .irq => ∀ q b, P q → P { q with fI := b }
  | .status => ∀ q b, P q → P (q.setP b)
  | .exchange => ∀ q, P q → P q.exchangeCE

/-- The property survives every write of the kinds in the list. -/
def RegWrite.AllKeep (P : Regs → Prop) : List RegWrite → Prop
  | [] => True
  | [φ] => φ.Keeps P
  | φ :: w => φ.Keeps P ∧ AllKeep P w

theorem RegWrite.allKeep_cons {P : Regs → Prop} {φ : RegWrite} {w : List RegWrite} :
    AllKeep P (φ :: w) ↔ φ.Keeps P ∧ AllKeep P w := by
  cases w with
  | nil => exact ⟨fun h => ⟨h, trivial⟩, fun h => h.1⟩
  | cons => exact Iff.rfl

theorem RegWrite.allKeep_of_forall {P : Regs → Prop} {w : List RegWrite} (h : ∀ φ ∈ w, φ.Keeps P) : AllKeep P w := by
  induction w with
  | nil => trivial
  | cons φ w ih => exact allKeep_cons.2 ⟨h φ List.mem_cons_self, ih fun ψ hψ => h ψ (List.mem_cons_of_mem _ hψ)⟩

/-- Whether the rules list the opcode for this kind of write: R24 to R26 for DB, D and PB, R38 for the flags. PC, A, X, Y
and S are open to every opcode. -/
def RegWrite.listed (op : Byte) : RegWrite → Bool
  | .pc | .a | .x | .y | .s => true
  | .db => [0xAB#8, 0x54#8, 0x44#8].contains op
  | .d => [0x5B#8, 0x2B#8].contains op
  | .pb => [0x5C#8, 0xDC#8, 0x22#8, 0x6B#8].contains op
  | .n => writersN.contains op
  | .v => writersV.contains op
  | .z => writersZ.contains op
  | .c => writersC.contains op
  | .dec => writersD.contains op
  | .irq => writersI.contains op
  | .status => [0x28#8, 0xC2#8, 0xE2#8].contains op
  | .exchange => [0xFB#8].contains op

/-- A program that changes registers by writes of these kinds only: every property they keep holds of the register file
after each row, and after the deferred write-back. -/
def Footprint (w : List RegWrite) (p : Regs → Prog) : Prop :=
  ∀ P, RegWrite.AllKeep P w → ∀ r, P r → (p r).AllRegs P

/-- The deferred write-back of a read-class instruction at the width `w8` makes writes of these kinds only. -/
def ReadOp.Footprint (w : List RegWrite) (w8 : Regs → Bool) (op : ReadOp) : Prop :=
  ∀ P, RegWrite.AllKeep P w → op.Keeps P w8

/-- A read-modify-write operation sets its flags by writes of these kinds only. -/
def RmwOp.Footprint (w : List RegWrite) (f : RmwOp) : Prop :=
  ∀ P, RegWrite.AllKeep P w → ∀ n v q, P q → P (f n v q).2

/-! ## The register operations as writes -/

section
open RegWrite
variable {P : Regs → Prop} {q : Regs} {m : Nat}

theorem setNZ_keeps (hn : n.Keeps P) (hz : z.Keeps P) (u : BitVec m) (hq : P q) : P (q.setNZ u) :=
  hn _ u.msb (hz q (u == 0#m) hq)

theorem loadA_keeps (ha : a.Keeps P) (hn : n.Keeps P) (hz : z.Keeps P) (u : BitVec m) (hq : P q) :
    P (q.loadA u) := setNZ_keeps hn hz u (ha _ _ hq)

theorem putSum_keeps (ha : a.Keeps P) (hn : n.Keeps P) (hz : z.Keeps P) (hc : c.Keeps P) (hv : v.Keeps P)
    (o : AluOut m) (hq : P q) : P (q.putSum o) := hv _ o.v (hc _ o.c (loadA_keeps ha hn hz o.res hq))

theorem putCompare_keeps (hn : n.Keeps P) (hz : z.Keeps P) (hc : c.Keeps P) (o : CompareOut) (hq : P q) :
    P (q.putCompare o) := hn _ o.n (hz _ o.z (hc q o.c hq))

/-- A write at the index width leaves the high byte of an index register where that width is 8. -/
theorem hi8_putLow {old : Word} (hm : m = 8) (u : BitVec m) : hi8 (putLow old u) = hi8 old := by
  subst hm; simp

theorem setX_keeps (hx : x.Keeps P) (hw : q.fX = true → m = 8) (u : BitVec m) (hq : P q) : P (q.setX u) :=
  hx _ _ hq fun h => hi8_putLow (hw h) u

theorem setY_keeps (hy : y.Keeps P) (hw : q.fX = true → m = 8) (u : BitVec m) (hq : P q) : P (q.setY u) :=
  hy _ _ hq fun h => hi8_putLow (hw h) u

theorem loadX_keeps (hx : x.Keeps P) (hn : n.Keeps P) (hz : z.Keeps P) (hw : q.fX = true → m = 8)
    (u : BitVec m) (hq : P q) : P (q.loadX u) := setNZ_keeps hn hz u (setX_keeps hx hw u hq)

theorem loadY_keeps (hy : y.Keeps P) (hn : n.Keeps P) (hz : z.Keeps P) (hw : q.fX = true → m = 8)
    (u : BitVec m) (hq : P q) : P (q.loadY u) := setNZ_keeps hn hz u (setY_keeps hy hw u hq)

theorem atM_keeps {f : Nat → Regs → Regs} (hf : ∀ m, P (f m q)) : P (q.atM f) := by
  unfold Regs.atM; split <;> exact hf _

theorem atX_keeps {f : Nat → Regs → Regs} (hf : ∀ m, (q.fX = true → m = 8) → P (f m q)) : P (q.atX f) := by
  unfold Regs.atX
  split
  · exact hf 8 fun _ => rfl
  · exact hf 16 fun h => absurd h ‹_›

/-- A far jump writes the bank and the offset (R402). -/
theorem setPbPc_keeps (hpb : pb.Keeps P) (hpc : pc.Keeps P) (b : Byte) (w : Word) (hq : P q) :
    P { q with pb := b, pc := w } := hpc _ w (hpb q b hq)

/-- MVN and MVP step X and Y at the index width (R342). -/
theorem stepXY_keeps (hx : x.Keeps P) (hy : y.Keeps P) (step : (m : Nat) → BitVec m → BitVec m) (hq : P q) :
    P (q.atX fun m r => (r.setX (step m (r.getX m))).setY (step m (r.getY m))) :=
  atX_keeps fun m hw => setY_keeps (q := q.setX _) hy hw _ (setX_keeps hx hw (step m (q.getX m)) hq)

theorem shiftFlags_keeps (hn : n.Keeps P) (hz : z.Keeps P) (hc : c.Keeps P) (o : ShiftOut m) (hq : P q) :
    P (shiftFlags o q).2 := hc _ o.c (setNZ_keeps hn hz o.res hq)

end

/-! ## The operations on an operand -/

section
variable {w8 : Regs → Bool}

/-- An operation that keeps the property at every width keeps it at the width in force. -/
theorem ReadOp.keeps_of_forall {P : Regs → Prop} {op : ReadOp} (h : ∀ n b q q', P q → op n b q = .ok q' → P q') :
    op.Keeps P w8 := ⟨fun b q q' hq _ => h 8 b q q' hq, fun b q q' hq _ => h 16 b q q' hq⟩

/-- ADC and SBC: the fault in the place of the write-back where D_flag = 1 (R452). -/
theorem sum_footprint (f : (n : Nat) → BitVec n → Regs → AluOut n) (e : Fault) :
    ReadOp.Footprint [.a, .n, .z, .c, .v] w8 (fun n b r => if r.fD then .error e else .ok (r.putSum (f n b r))) := by
  rintro P ⟨ha, hn, hz, hc, hv⟩
  refine ReadOp.keeps_of_forall fun n b q q' hq h => ?_
  split at h <;> cases h
  exact putSum_keeps ha hn hz hc hv _ hq

/-- CMP, CPX and CPY. -/
theorem compare_footprint (f : (n : Nat) → BitVec n → Regs → CompareOut) :
    ReadOp.Footprint [.n, .z, .c] w8 (fun n b r => .ok (r.putCompare (f n b r))) := fun _ ⟨hn, hz, hc⟩ =>
  ReadOp.keeps_of_forall fun _ _ _ _ hq e => Except.ok.inj e ▸ putCompare_keeps hn hz hc _ hq

/-- AND, ORA, EOR and LDA: the accumulator with Z and N. -/
theorem loadA_footprint (f : (n : Nat) → BitVec n → Regs → BitVec n) :
    ReadOp.Footprint [.a, .n, .z] w8 (fun n b r => .ok (r.loadA (f n b r))) := fun _ ⟨ha, hn, hz⟩ =>
  ReadOp.keeps_of_forall fun _ _ _ _ hq e => Except.ok.inj e ▸ loadA_keeps ha hn hz _ hq

theorem bitOp_footprint : bitOp.Footprint [.n, .v, .z] w8 := fun _ ⟨hn, hv, hz⟩ =>
  ReadOp.keeps_of_forall fun n b q _ hq e =>
    Except.ok.inj e ▸ hv _ (b.getLsbD (n - 2)) (hn _ b.msb (hz q (testZ (q.getA n) b) hq))

theorem bitImmOp_footprint : bitImmOp.Footprint [.z] w8 := fun _ hz =>
  ReadOp.keeps_of_forall fun _ _ _ _ hq e => Except.ok.inj e ▸ hz _ _ hq

theorem ldxOp_footprint : ldxOp.Footprint [.x, .n, .z] (·.fX) := fun P ⟨hx, hn, hz⟩ =>
  ⟨fun _ _ _ hq _ e => Except.ok.inj e ▸ loadX_keeps hx hn hz (fun _ => rfl) _ hq,
   fun _ _ _ hq hw e => Except.ok.inj e ▸ loadX_keeps hx hn hz (by simp [hw]) _ hq⟩

theorem ldyOp_footprint : ldyOp.Footprint [.y, .n, .z] (·.fX) := fun P ⟨hy, hn, hz⟩ =>
  ⟨fun _ _ _ hq _ e => Except.ok.inj e ▸ loadY_keeps hy hn hz (fun _ => rfl) _ hq,
   fun _ _ _ hq hw e => Except.ok.inj e ▸ loadY_keeps hy hn hz (by simp [hw]) _ hq⟩

/-- ASL, LSR, ROL and ROR. -/
theorem shift_footprint (f : (n : Nat) → BitVec n → Regs → ShiftOut n) :
    RmwOp.Footprint [.n, .z, .c] (fun n v r => shiftFlags (f n v r) r) := fun _ ⟨hn, hz, hc⟩ _ _ _ hq =>
  shiftFlags_keeps hn hz hc _ hq

/-- INC and DEC. -/
theorem count_footprint (f : (n : Nat) → BitVec n → BitVec n) :
    RmwOp.Footprint [.n, .z] (fun n v r => (f n v, r.setNZ (f n v))) := fun _ ⟨hn, hz⟩ _ _ _ hq =>
  setNZ_keeps hn hz _ hq

theorem tsbOp_footprint : tsbOp.Footprint [.z] := fun _ hz _ _ _ hq => hz _ _ hq
theorem trbOp_footprint : trbOp.Footprint [.z] := fun _ hz _ _ _ hq => hz _ _ hq

end

/-! ## The programs -/

section
variable {w : List RegWrite}

theorem readM_footprint {m : Mode} {op : Regs → ReadOp} (h : ∀ r, (op r).Footprint w (·.fM)) :
    Footprint (.pc :: w) fun r => readM m r (op r) := fun P hP r hr =>
  let ⟨hpc, hw⟩ := RegWrite.allKeep_cons.1 hP
  readM_allRegs (fun q => hpc q _) (h r P hw) hr

theorem readX_footprint {m : Mode} {op : ReadOp} (h : op.Footprint w (·.fX)) :
    Footprint (.pc :: w) fun r => readX m r op := fun P hP _ hr =>
  let ⟨hpc, hw⟩ := RegWrite.allKeep_cons.1 hP
  readX_allRegs (fun q => hpc q _) (h P hw) hr

theorem immM_footprint {op : Regs → ReadOp} (h : ∀ r, (op r).Footprint w (·.fM)) :
    Footprint (.pc :: w) fun r => immM r (op r) := fun P hP r hr =>
  let ⟨hpc, hw⟩ := RegWrite.allKeep_cons.1 hP
  immM_allRegs (fun q => hpc q _) (h r P hw) hr

theorem immX_footprint {op : ReadOp} (h : op.Footprint w (·.fX)) :
    Footprint (.pc :: w) fun r => immX r op := fun P hP _ hr =>
  let ⟨hpc, hw⟩ := RegWrite.allKeep_cons.1 hP
  immX_allRegs (fun q => hpc q _) (h P hw) hr

theorem storeM_footprint {m : Mode} {v : Regs → Word} : Footprint [.pc] fun r => storeM m r v := fun _ hpc _ hr =>
  storeM_allRegs (fun q => hpc q _) hr

theorem storeX_footprint {m : Mode} {v : Regs → Word} : Footprint [.pc] fun r => storeX m r v := fun _ hpc _ hr =>
  storeX_allRegs (fun q => hpc q _) hr

theorem rmwM_footprint {m : Mode} {f : RmwOp} (h : f.Footprint w) : Footprint (.pc :: w) fun r => rmwM m r f :=
  fun P hP _ hr =>
  let ⟨hpc, hw⟩ := RegWrite.allKeep_cons.1 hP
  rmwM_allRegs (fun q => hpc q _) (h P hw) hr

theorem accPhase_footprint {f : RmwOp} (h : f.Footprint w) : Footprint (.a :: w) fun r => accPhase r f := by
  intro P hP r hr
  obtain ⟨ha, hw⟩ := RegWrite.allKeep_cons.1 hP
  show P (ite _ _ _)
  split <;> exact ha _ _ (h P hw _ _ _ hr)

theorem branch_footprint {taken : Regs → Bool} : Footprint [.pc] fun r => branch (taken r) r := by
  intro P (hpc : RegWrite.pc.Keeps P) r hr
  have h1 : P r.incPc := hpc _ _ hr
  have ht : ∀ t, P { r.incPc with pc := t } := fun t => hpc _ t h1
  dsimp only [branch]
  split
  · refine fetchByte_allRegs h1 fun b => ?_
    split
    · exact ⟨ht _, ht _⟩
    · exact ht _
  · exact h1

theorem branchLong_footprint : Footprint [.pc] branchLong := fun _ hpc _ hr =>
  fetchWord_allRegs (fun q => hpc q _) hr fun _ _ hq => hpc _ _ hq

/-! Jumps, calls and returns. -/

theorem readLast_ok_allRegs {P : Regs → Prop} {src : Source} {a : Addr} {r : Regs} {f : Byte → Regs} (h : P r)
    (hf : ∀ b, P (f b)) : (Prog.readLast src a r (some fun b => .ok (f b))).AllRegs P :=
  ⟨h, fun b _ e => Except.ok.inj e ▸ hf b⟩

theorem jumpThrough_allRegs {P : Regs → Prop} (hpc : RegWrite.pc.Keeps P) {bank : Byte} {p : Word} {r : Regs} (h : P r) :
    (jumpThrough bank p r).AllRegs P := ⟨h, fun _ => readLast_ok_allRegs h fun _ => hpc _ _ h⟩

theorem jumpAbs_footprint : Footprint [.pc] jumpAbs := fun P (hpc : RegWrite.pc.Keeps P) r hr =>
  have h1 : P r.incPc := hpc _ _ hr
  have h2 : P r.incPc.incPc := hpc _ _ h1
  fetchByte_allRegs h1 fun _ => readLast_ok_allRegs h2 fun _ => hpc _ _ h2

theorem jumpInd_footprint : Footprint [.pc] jumpInd := fun _ hpc _ hr =>
  fetchWord_allRegs (fun q => hpc q _) hr fun _ _ hq => jumpThrough_allRegs hpc hq

theorem jumpXInd_footprint : Footprint [.pc] jumpXInd := fun _ hpc _ hr =>
  fetchWord_allRegs (fun q => hpc q _) hr fun _ _ hq => ⟨hq, jumpThrough_allRegs hpc hq⟩

theorem jumpLong_footprint : Footprint [.pc, .pb] jumpLong := fun P ⟨hpc, hpb⟩ _ hr =>
  fetchWord_allRegs (fun q => hpc q _) hr fun _ q hq =>
    have h1 : P q.incPc := hpc _ _ hq
    readLast_ok_allRegs h1 fun _ => setPbPc_keeps hpb hpc _ _ h1

theorem jumpIndLong_footprint : Footprint [.pc, .pb] jumpIndLong := fun _ ⟨hpc, hpb⟩ _ hr =>
  fetchWord_allRegs (fun q => hpc q _) hr fun _ _ hq =>
    readPtr_allRegs hq fun _ => readLast_ok_allRegs hq fun _ => setPbPc_keeps hpb hpc _ _ hq

theorem push_allRegs {P : Regs → Prop} (hs : RegWrite.s.Keeps P) {v : Byte} {r : Regs} {k : Regs → Prog} (h : P r)
    (hk : P r.decS → (k r.decS).AllRegs P) : (push v r k).AllRegs P :=
  have h1 : P r.decS := hs _ _ h
  ⟨h1, hk h1⟩

theorem push16Last_allRegs {P : Regs → Prop} (hs : RegWrite.s.Keeps P) {v : Word} {r : Regs} {f : Regs → Regs} (h : P r)
    (hf : ∀ q, P q → P (f q)) : (push16Last v r f).AllRegs P :=
  push_allRegs hs h fun h1 => hf _ (hs _ _ h1)

theorem pull_allRegs {P : Regs → Prop} (hs : RegWrite.s.Keeps P) {r : Regs} {k : Byte → Regs → Prog} (h : P r)
    (hk : ∀ b, P r.incS → (k b r.incS).AllRegs P) : (pull r k).AllRegs P :=
  have h1 : P r.incS := hs _ _ h
  ⟨h1, fun b => hk b h1⟩

theorem pullLast_allRegs {P : Regs → Prop} (hs : RegWrite.s.Keeps P) {r : Regs} {wb : Byte → Regs → Regs} (h : P r)
    (hwb : ∀ b, P r.incS → P (wb b r.incS)) : (pullLast r wb).AllRegs P :=
  have h1 : P r.incS := hs _ _ h
  readLast_ok_allRegs h1 fun b => hwb b h1

theorem callAbs_footprint : Footprint [.pc, .s] callAbs := by
  rintro P ⟨hpc, hs⟩ r hr
  dsimp only [callAbs]
  exact fetchWord_allRegs (fun q => hpc q _) hr fun _ _ hq => ⟨hq, push16Last_allRegs hs hq fun _ h => hpc _ _ h⟩

theorem callXInd_footprint : Footprint [.pc, .s] callXInd := by
  rintro P ⟨hpc, hs⟩ r hr
  have hpc' : ∀ q, P q → P q.incPc := fun q => hpc q _
  dsimp only [callXInd]
  exact fetchByte_allRegs (hpc' _ hr) fun _ => push_allRegs hs (hpc' _ hr) fun h1 => push_allRegs hs h1 fun h2 =>
    fetchByte_allRegs (hpc' _ h2) fun _ => ⟨hpc' _ h2, jumpThrough_allRegs hpc (hpc' _ h2)⟩

theorem callLong_footprint : Footprint [.pc, .s, .pb] callLong := by
  rintro P ⟨hpc, hs, hpb⟩ r hr
  have hpc' : ∀ q, P q → P q.incPc := fun q => hpc q _
  dsimp only [callLong]
  exact fetchWord_allRegs hpc' hr fun _ _ hq => push_allRegs hs hq fun h1 => ⟨h1,
    fetchByte_allRegs (hpc' _ h1) fun _ => push16Last_allRegs hs (hpc' _ h1) fun _ h => setPbPc_keeps hpb hpc _ _ h⟩

theorem returnShort_footprint : Footprint [.pc, .s] returnShort := fun _ ⟨hpc, hs⟩ _ hr =>
  ⟨hr, hr, pull_allRegs hs hr fun _ h1 => pull_allRegs hs h1 fun _ h2 => hpc _ _ h2⟩

theorem returnLong_footprint : Footprint [.pc, .s, .pb] returnLong := fun _ ⟨hpc, hs, hpb⟩ _ hr =>
  ⟨hr, hr, pull_allRegs hs hr fun _ h1 => pull_allRegs hs h1 fun _ h2 => pullLast_allRegs hs h2 fun _ h3 =>
    setPbPc_keeps hpb hpc _ _ h3⟩

/-! Pushes, pulls and the block moves. -/

theorem pushByte_footprint {v : Regs → Byte} : Footprint [.s] fun r => pushByte (v r) r := fun _ hs _ hr =>
  ⟨hr, hs _ _ hr⟩

theorem pushReg_footprint {w8 : Regs → Bool} {v : Regs → Word} : Footprint [.s] fun r => pushReg (w8 r) (v r) r := by
  intro P (hs : RegWrite.s.Keeps P) r hr
  refine ⟨hr, ?_⟩
  split
  · exact hs _ _ hr
  · exact push16Last_allRegs hs hr fun _ h => h

theorem pea_footprint : Footprint [.pc, .s] progPea := fun _ ⟨hpc, hs⟩ _ hr =>
  fetchWord_allRegs (fun q => hpc q _) hr fun _ _ hq => push16Last_allRegs hs hq fun _ h => h

theorem pei_footprint : Footprint [.pc, .s] progPei := fun _ ⟨hpc, hs⟩ _ hr =>
  fetchDirect_allRegs (fun q => hpc q _) hr fun _ _ hq => readPtr_allRegs hq fun _ =>
    push16Last_allRegs hs hq fun _ h => h

theorem per_footprint : Footprint [.pc, .s] progPer := fun _ ⟨hpc, hs⟩ _ hr =>
  fetchWord_allRegs (fun q => hpc q _) hr fun _ _ hq => ⟨hq, push16Last_allRegs hs hq fun _ h => h⟩

/-- A pull at a width that is 8 or 16; the pulls leave the index width. -/
theorem pullReg_allRegs {P : Regs → Prop} (hs : RegWrite.s.Keeps P) {w8 : Bool} {r : Regs}
    {op : (n : Nat) → BitVec n → Regs → Regs} (h : P r)
    (hop : ∀ n v q, P q → q.fX = r.fX → (w8 = true → n = 8) → P (op n v q)) : (pullReg w8 r op).AllRegs P := by
  refine ⟨h, h, ?_⟩
  split
  · exact pullLast_allRegs hs h fun _ h1 => hop 8 _ _ h1 rfl fun _ => rfl
  · exact pull_allRegs hs h fun _ h1 => pullLast_allRegs hs h1 fun _ h2 => hop 16 _ _ h2 rfl fun e => absurd e ‹_›

theorem pla_footprint : Footprint [.s, .a, .n, .z] progPla := fun _ ⟨hs, ha, hn, hz⟩ _ hr =>
  pullReg_allRegs hs hr fun _ _ _ hq _ _ => loadA_keeps ha hn hz _ hq

theorem plx_footprint : Footprint [.s, .x, .n, .z] progPlx := fun _ ⟨hs, hx, hn, hz⟩ _ hr =>
  pullReg_allRegs hs hr fun _ _ _ hq e hw => loadX_keeps hx hn hz (fun h => hw (e ▸ h)) _ hq

theorem ply_footprint : Footprint [.s, .y, .n, .z] progPly := fun _ ⟨hs, hy, hn, hz⟩ _ hr =>
  pullReg_allRegs hs hr fun _ _ _ hq e hw => loadY_keeps hy hn hz (fun h => hw (e ▸ h)) _ hq

theorem plp_footprint : Footprint [.s, .status] progPlp := fun _ ⟨hs, hp⟩ _ hr =>
  ⟨hr, hr, pullLast_allRegs hs hr fun _ h => hp _ _ h⟩

theorem plb_footprint : Footprint [.s, .db, .n, .z] progPlb := fun _ ⟨hs, hdb, hn, hz⟩ _ hr =>
  ⟨hr, hr, pullLast_allRegs hs hr fun _ h => setNZ_keeps hn hz _ (hdb _ _ h)⟩

theorem pld_footprint : Footprint [.s, .d, .n, .z] progPld := fun _ ⟨hs, hd, hn, hz⟩ _ hr =>
  ⟨hr, hr, pull_allRegs hs hr fun _ h1 => pullLast_allRegs hs h1 fun _ h2 => setNZ_keeps hn hz _ (hd _ _ h2)⟩

theorem statusMask_footprint {f : Byte → Byte → Byte} : Footprint [.pc, .status] fun r => statusMask r f :=
  fun _ ⟨hpc, hp⟩ _ hr => fetchByte_allRegs (hpc _ _ hr) fun _ => hp _ _ (hpc _ _ hr)

theorem xba_footprint : Footprint [.a, .n, .z] progXba := fun _ ⟨ha, hn, hz⟩ _ hr =>
  ⟨hr, setNZ_keeps hn hz _ (ha _ _ hr)⟩

theorem blockMove_footprint {step : (n : Nat) → BitVec n → BitVec n} :
    Footprint [.pc, .db, .x, .y, .a] fun r => blockMove r step := by
  rintro P ⟨hpc, hdb, hx, hy, ha⟩ r hr
  have h1 : P r.incPc := hpc _ _ hr
  have h2 : P r.incPc.incPc := hpc _ _ h1
  dsimp only [blockMove]
  refine fetchByte_allRegs h1 fun dst => fetchByte_allRegs h2 fun src => ⟨h2, fun t => ?_⟩
  have h3 : P { r.incPc.incPc with db := dst } := hdb _ _ h2
  have h4 := ha _ (r.incPc.incPc.a - 1#16) (stepXY_keeps hx hy step h3)
  refine ⟨h3, h4, ?_⟩
  dsimp only [Prog.AllRegs]
  split
  · exact hpc _ _ h4
  · exact h4

end

/-! ## The dispatch table -/

/-- Every entry of the dispatch table changes registers only by the writes that the rules list its opcode for. -/
theorem progOf_opcode_footprint (i : Instr) {p : Regs → Prog} (hp : progOf i.opcode = some p) :
    ∃ w, Footprint w p ∧ w.all (RegWrite.listed i.opcode) = true := by
  cases i with (dsimp only [Instr.opcode] at hp ⊢; cases hp)
  | adcDpXInd | adcSr | adcDp | adcDpLong | adcAbs | adcLong | adcDpIndY | adcDpInd | adcSrIndY | adcDpX | adcDpLongY
  | adcAbsY | adcAbsX | adcLongX
  | sbcDpXInd | sbcSr | sbcDp | sbcDpLong | sbcAbs | sbcLong | sbcDpIndY | sbcDpInd | sbcSrIndY | sbcDpX | sbcDpLongY
  | sbcAbsY | sbcAbsX | sbcLongX => exact ⟨_, readM_footprint fun _ => sum_footprint _ _, by decide +kernel⟩
  | adcImm | sbcImm => exact ⟨_, immM_footprint fun _ => sum_footprint _ _, by decide +kernel⟩
  | cmpDpXInd | cmpSr | cmpDp | cmpDpLong | cmpAbs | cmpLong | cmpDpIndY | cmpDpInd | cmpSrIndY | cmpDpX | cmpDpLongY
  | cmpAbsY | cmpAbsX | cmpLongX => exact ⟨_, readM_footprint fun _ => compare_footprint _, by decide +kernel⟩
  | cmpImm => exact ⟨_, immM_footprint fun _ => compare_footprint _, by decide +kernel⟩
  | cpxDp | cpxAbs | cpyDp | cpyAbs => exact ⟨_, readX_footprint (compare_footprint _), by decide +kernel⟩
  | cpxImm | cpyImm => exact ⟨_, immX_footprint (compare_footprint _), by decide +kernel⟩
  | andDpXInd | andSr | andDp | andDpLong | andAbs | andLong | andDpIndY | andDpInd | andSrIndY | andDpX | andDpLongY
  | andAbsY | andAbsX | andLongX
  | oraDpXInd | oraSr | oraDp | oraDpLong | oraAbs | oraLong | oraDpIndY | oraDpInd | oraSrIndY | oraDpX | oraDpLongY
  | oraAbsY | oraAbsX | oraLongX
  | eorDpXInd | eorSr | eorDp | eorDpLong | eorAbs | eorLong | eorDpIndY | eorDpInd | eorSrIndY | eorDpX | eorDpLongY
  | eorAbsY | eorAbsX | eorLongX
  | ldaDpXInd | ldaSr | ldaDp | ldaDpLong | ldaAbs | ldaLong | ldaDpIndY | ldaDpInd | ldaSrIndY | ldaDpX | ldaDpLongY
  | ldaAbsY | ldaAbsX | ldaLongX => exact ⟨_, readM_footprint fun _ => loadA_footprint _, by decide +kernel⟩
  | andImm | oraImm | eorImm | ldaImm => exact ⟨_, immM_footprint fun _ => loadA_footprint _, by decide +kernel⟩
  | bitDp | bitAbs | bitDpX | bitAbsX => exact ⟨_, readM_footprint fun _ => bitOp_footprint, by decide +kernel⟩
  | bitImm => exact ⟨_, immM_footprint fun _ => bitImmOp_footprint, by decide +kernel⟩
  | ldxDp | ldxAbs | ldxDpY | ldxAbsY => exact ⟨_, readX_footprint ldxOp_footprint, by decide +kernel⟩
  | ldxImm => exact ⟨_, immX_footprint ldxOp_footprint, by decide +kernel⟩
  | ldyDp | ldyAbs | ldyDpX | ldyAbsX => exact ⟨_, readX_footprint ldyOp_footprint, by decide +kernel⟩
  | ldyImm => exact ⟨_, immX_footprint ldyOp_footprint, by decide +kernel⟩
  | staDpXInd | staSr | staDp | staDpLong | staAbs | staLong | staDpIndY | staDpInd | staSrIndY | staDpX | staDpLongY
  | staAbsY | staAbsX | staLongX | stzDp | stzDpX | stzAbs | stzAbsX =>
    exact ⟨_, storeM_footprint, by decide +kernel⟩
  | stxDp | stxAbs | stxDpY | styDp | styAbs | styDpX => exact ⟨_, storeX_footprint, by decide +kernel⟩
  | aslDp | aslAbs | aslDpX | aslAbsX | lsrDp | lsrAbs | lsrDpX | lsrAbsX
  | rolDp | rolAbs | rolDpX | rolAbsX | rorDp | rorAbs | rorDpX | rorAbsX =>
    exact ⟨_, rmwM_footprint (shift_footprint _), by decide +kernel⟩
  | aslA | lsrA | rolA | rorA => exact ⟨_, accPhase_footprint (shift_footprint _), by decide +kernel⟩
  | incDp | incAbs | incDpX | incAbsX | decDp | decAbs | decDpX | decAbsX =>
    exact ⟨_, rmwM_footprint (count_footprint _), by decide +kernel⟩
  | incA | decA => exact ⟨_, accPhase_footprint (count_footprint _), by decide +kernel⟩
  | tsbDp | tsbAbs => exact ⟨_, rmwM_footprint tsbOp_footprint, by decide +kernel⟩
  | trbDp | trbAbs => exact ⟨_, rmwM_footprint trbOp_footprint, by decide +kernel⟩
  | tax | tyx | tsx | inx | dex =>
    exact ⟨[.x, .n, .z], fun P ⟨hx, hn, hz⟩ r hr => atX_keeps (P := P) fun _ hw => loadX_keeps hx hn hz hw _ hr,
      by decide +kernel⟩
  | tay | txy | iny | dey =>
    exact ⟨[.y, .n, .z], fun P ⟨hy, hn, hz⟩ r hr => atX_keeps (P := P) fun _ hw => loadY_keeps hy hn hz hw _ hr,
      by decide +kernel⟩
  | txa | tya =>
    exact ⟨[.a, .n, .z], fun P ⟨ha, hn, hz⟩ r hr => atM_keeps (P := P) fun _ => loadA_keeps ha hn hz _ hr,
      by decide +kernel⟩
  | tsc | tdc => exact ⟨[.a, .n, .z], fun P ⟨ha, hn, hz⟩ r hr => loadA_keeps ha hn hz _ hr, by decide +kernel⟩
  | tcd => exact ⟨[.d, .n, .z], fun P ⟨hd, hn, hz⟩ r hr => setNZ_keeps hn hz _ (hd _ _ hr), by decide +kernel⟩
  | txs | tcs => exact ⟨[.s], fun P hs r hr => hs _ _ hr, by decide +kernel⟩
  | xba => exact ⟨_, xba_footprint, by decide +kernel⟩
  | php | phb | phk => exact ⟨_, pushByte_footprint, by decide +kernel⟩
  | pha | phx | phy | phd => exact ⟨_, pushReg_footprint, by decide +kernel⟩
  | pea => exact ⟨_, pea_footprint, by decide +kernel⟩
  | pei => exact ⟨_, pei_footprint, by decide +kernel⟩
  | per => exact ⟨_, per_footprint, by decide +kernel⟩
  | pla => exact ⟨_, pla_footprint, by decide +kernel⟩
  | plx => exact ⟨_, plx_footprint, by decide +kernel⟩
  | ply => exact ⟨_, ply_footprint, by decide +kernel⟩
  | plp => exact ⟨_, plp_footprint, by decide +kernel⟩
  | plb => exact ⟨_, plb_footprint, by decide +kernel⟩
  | pld => exact ⟨_, pld_footprint, by decide +kernel⟩
  | mvn | mvp => exact ⟨_, blockMove_footprint, by decide +kernel⟩
  | clc | sec => exact ⟨[.c], fun P hc r hr => hc _ _ hr, by decide +kernel⟩
  | cld | sed => exact ⟨[.dec], fun P hd r hr => hd _ _ hr, by decide +kernel⟩
  | cli | sei => exact ⟨[.irq], fun P hi r hr => hi _ _ hr, by decide +kernel⟩
  | clv => exact ⟨[.v], fun P hv r hr => hv _ _ hr, by decide +kernel⟩
  | rep | sep => exact ⟨_, statusMask_footprint, by decide +kernel⟩
  | xce => exact ⟨[.exchange], fun P he r hr => he _ hr, by decide +kernel⟩
  | nop => exact ⟨[], fun P _ r hr => hr, by decide +kernel⟩
  | bpl | bmi | bvc | bvs | bcc | bcs | bne | beq | bra => exact ⟨_, branch_footprint, by decide +kernel⟩
  | brl => exact ⟨_, branchLong_footprint, by decide +kernel⟩
  | jmpAbs => exact ⟨_, jumpAbs_footprint, by decide +kernel⟩
  | jmpInd => exact ⟨_, jumpInd_footprint, by decide +kernel⟩
  | jmpXInd => exact ⟨_, jumpXInd_footprint, by decide +kernel⟩
  | jmlLong => exact ⟨_, jumpLong_footprint, by decide +kernel⟩
  | jmlIndLong => exact ⟨_, jumpIndLong_footprint, by decide +kernel⟩
  | jsrAbs => exact ⟨_, callAbs_footprint, by decide +kernel⟩
  | jsrXInd => exact ⟨_, callXInd_footprint, by decide +kernel⟩
  | jsl => exact ⟨_, callLong_footprint, by decide +kernel⟩
  | rts => exact ⟨_, returnShort_footprint, by decide +kernel⟩
  | rtl => exact ⟨_, returnLong_footprint, by decide +kernel⟩

/-- Every opcode is some instruction's. -/
theorem exists_opcode_eq (op : Byte) : ∃ i : Instr, i.opcode = op :=
  ⟨decodeOp true true op 0x00#8 0x00#8 0x00#8, by revert op; decide⟩

/-- A property that every write listed for the opcode keeps holds of all register files of its program. -/
theorem progOf_allRegs {P : Regs → Prop} {op : Byte} {p : Regs → Prog} (hp : progOf op = some p)
    (hP : ∀ φ, RegWrite.listed op φ = true → φ.Keeps P) {r : Regs} (h : P r) : (p r).AllRegs P := by
  obtain ⟨i, rfl⟩ := exists_opcode_eq op
  obtain ⟨w, hw, hl⟩ := progOf_opcode_footprint i hp
  exact hw P (RegWrite.allKeep_of_forall fun φ hφ => hP φ (List.all_eq_true.1 hl φ hφ)) r h

/-- A property that every write listed for the instruction's opcode keeps is kept by the instruction. -/
theorem exec_regs {P : Regs → Prop} {i : Instr} {s t : State} (h : exec i s = .next t)
    (hP : ∀ φ, RegWrite.listed i.opcode φ = true → φ.Keeps P) (hs : P s.regs) : P t.regs := by
  have h1 : P s.regs.incPc := hP .pc rfl _ _ hs
  obtain ⟨p, hp, -, rfl⟩ | rfl := exec_cases h
  · exact Prog.run_allRegs (progOf_allRegs hp hP h1) _ _
  · exact h1

end Sys2Proof.Machine
end

section
/-! The invariant of every reachable state (10_state.md R22, R23, R28, R34): the register invariants are kept by every
write, so the programs, the runs and the single calls of `advance()` keep them. -/

namespace Sys2Proof.Machine

/-! ## The register invariants -/

/-- Emulation mode forces the width flags (R34). -/
theorem Regs.Ok.widths {r : Regs} (h : r.Ok) (e : r.fE = true) : r.fM = true ∧ r.fX = true :=
  ⟨(h.1 e).1, (h.1 e).2.1⟩

theorem Regs.Ok.setS {r : Regs} (h : r.Ok) (v : Word) : (r.setS v).Ok := by
  obtain ⟨hE, hX⟩ := h
  exact ⟨fun (e : r.fE = true) => ⟨(hE e).1, (hE e).2.1, by simp [e]⟩, hX⟩

/-- An index register has a zero high byte once X_flag is 1: it had one before, or it is narrowed now (R23). -/
theorem hi8_narrowIndex {old : Word} {was : Bool} (h : was = true → hi8 old = 0x00#8) :
    hi8 (narrowIndex old was true) = 0x00#8 := by
  cases was
  · simp [narrowIndex]
  · exact h rfl

/-- In emulation mode `set_P` leaves the widths (R34), in native mode it narrows X and Y where it sets X_flag (R23). -/
theorem Regs.Ok.setP {r : Regs} (h : r.Ok) (v : Byte) : (r.setP v).Ok := by
  obtain ⟨hE, hX⟩ := h
  cases e : r.fE
  · refine ⟨fun e' => by simp [e] at e', fun x => ?_⟩
    simp only [setP_fX, setP_x, setP_y, e, Bool.false_eq_true, if_false] at x ⊢
    rw [x]
    exact ⟨hi8_narrowIndex fun w => (hX w).1, hi8_narrowIndex fun w => (hX w).2⟩
  · simp only [Regs.Ok, setP_fE, setP_fM, setP_fX, setP_x, setP_y, e, if_true]
    exact ⟨fun _ => hE e, hX⟩

/-- XCE with C = 1 forces the widths and the high bytes (R371), with C = 0 it leaves emulation mode. -/
theorem Regs.Ok.exchangeCE {r : Regs} (h : r.Ok) : r.exchangeCE.Ok := by
  cases c : r.fC
  · simpa [Regs.exchangeCE, Regs.Ok, c] using h.2
  · simp [Regs.exchangeCE, Regs.Ok, c]

/-- Every write keeps the register invariants. -/
theorem RegWrite.keeps_ok (φ : RegWrite) : φ.Keeps Regs.Ok := by
  cases φ with
  | x => exact fun _ _ ⟨hE, hX⟩ hw => ⟨hE, fun x => ⟨(hw x).trans (hX x).1, (hX x).2⟩⟩
  | y => exact fun _ _ ⟨hE, hX⟩ hw => ⟨hE, fun x => ⟨(hX x).1, (hw x).trans (hX x).2⟩⟩
  | s => exact fun _ v h => h.setS v
  | status => exact fun _ v h => h.setP v
  | exchange => exact fun _ h => h.exchangeCE
  | _ => exact fun _ _ h => h

theorem progOf_allRegs_ok {op : Byte} {p : Regs → Prog} (hp : progOf op = some p) {r : Regs} (h : r.Ok) :
    (p r).AllRegs Regs.Ok := progOf_allRegs hp (fun φ _ => φ.keeps_ok) h

theorem Regs.ok_reset : Regs.reset.Ok := by unfold Regs.Ok; decide

theorem Regs.ok_resetTo (v : Word) (dr : ResetDraw) : (Regs.resetTo v dr).Ok :=
  ⟨fun _ => ⟨rfl, rfl, (by decide : hi8 0x01FF#16 = 0x01#8)⟩, fun _ => ⟨hi8_word _ _, hi8_word _ _⟩⟩

/-! ## Runs -/

@[simp] theorem State.consume_base (s : State) : s.consume.lat.base = s.lat.base := by
  unfold State.consume; split <;> rfl

/-- The latches that a run leaves with a pending write-back are those of its own instruction. -/
theorem Prog.run_wb {p : Prog} {code : List Byte} {s : State} {l : Latches} (h : (p.run code s).wb = some l) :
    l.base = s.lat.base := by
  induction p generalizing code s with
  | read src a r k ih => rw [Prog.run_read] at h; exact (ih _ h).trans (State.consume_base _)
  | readLast src a r wb =>
    rw [Prog.run_readLast] at h
    cases wb with
    | none => cases h
    | some g =>
      rw [State.settle_some] at h
      split at h <;> cases h
      rfl
  | write a v r k ih => rw [Prog.run_write] at h; exact ih (s := (s.cycWrite a v r).goOn.store) h
  | writeLast a v r => cases h
  | idle r k ih => rw [Prog.run_idle] at h; exact ih (s := (s.cycIdle r).goOn) h
  | idleLast r => cases h

/-- A run whose register files are good leads to the invariant. -/
theorem Prog.run_inv {p : Prog} (hp : p.AllRegs Regs.Ok) {s : State} (hm : s.mem.wf = true) (hb : s.lat.base.Ok)
    (code : List Byte) : (p.run code s).Inv := by
  refine ⟨Prog.run_allRegs hp _ _, Prog.run_mem_wf _ _ _ hm, fun op k hc => ?_, fun l hl => Prog.run_wb hl ▸ hb⟩
  obtain ⟨hf, -⟩ | ⟨f, hf⟩ := Prog.run_ends p code s <;> rw [hf] at hc <;> cases hc

section
variable {s : State}

theorem State.Inv.raise (h : s.Inv) (f : Fault) : (s.raise f).Inv := by
  obtain ⟨hr, hm, -, hw⟩ := h
  exact ⟨hr, hm, nofun, hw⟩

/-- The opcode fetch leaves the opcode's latches for the decode step. -/
theorem State.Inv.startFetch (h : s.Inv) : s.startFetch.Inv := by
  obtain ⟨hr, hm, -, hw⟩ := h
  exact ⟨hr, hm, nofun, hw⟩

theorem State.Inv.supply (h : s.Inv) (b : Byte) : (s.supply b).Inv := h

theorem State.Inv.store (h : s.Inv) : s.store.Inv := by
  obtain ⟨hr, hm, hc, hw⟩ := h
  exact ⟨hr, Memory.set_wf hm _ _, hc, hw⟩

theorem State.Inv.consume (h : s.Inv) : s.consume.Inv := by
  simpa [State.Inv] using h

/-- The decode step latches the registers of the moment (R203). -/
theorem State.Inv.latchOpcode (h : s.Inv) (op : Byte) : (s.latchOpcode op).Inv := by
  obtain ⟨hr, hm, -, hw⟩ := h
  exact ⟨hr, hm, fun _ _ _ => hr, hw⟩

/-- The write-back is one of the instruction's own register files (R205). -/
theorem Latches.writeBack_ok {l : Latches} (hl : l.base.Ok) {f : Byte → Except Fault Regs} (hf : l.writeBack = some f)
    {b : Byte} {r : Regs} (hr : f b = .ok r) : r.Ok := by
  obtain ⟨p, hp, hd⟩ := Option.bind_eq_some_iff.1 hf
  exact Prog.deferred_allRegs (progOf_allRegs_ok hp hl) hd hr

theorem State.Inv.commit (h : s.Inv) {t : State} (ht : s.commit = .ok t) : t.Inv := by
  have ⟨hr, hm, hc, hw⟩ := h
  unfold State.commit at ht
  split at ht
  · cases ht; exact h
  · rename_i l hl
    split at ht
    · cases ht; exact ⟨hr, hm, hc, nofun⟩
    · rename_i f hf
      split at ht <;> cases ht
      rename_i r hfr
      exact ⟨Latches.writeBack_ok (hw l hl) hf hfr, hm, hc, nofun⟩

/-- The rows left of an instruction in progress have good register files (R204). -/
theorem State.rowsFrom_allRegs {op : Byte} {k : Nat} (hb : s.lat.base.Ok) {q : Prog} (hq : s.rowsFrom op k = some q) :
    q.AllRegs Regs.Ok := by
  obtain ⟨p, hp, ha⟩ := Option.bind_eq_some_iff.1 hq
  exact Prog.after_allRegs (progOf_allRegs_ok hp hb) ha

/-! ## Steps -/

theorem State.Inv.exec (h : s.Inv) {i : Instr} {t : State} (ht : Sys2Proof.Machine.exec i s = .next t) : t.Inv := by
  have hf : (s.fetchOpcode i.opcode).Inv := (h.startFetch.supply _).latchOpcode _
  obtain ⟨p, hp, -, rfl⟩ | rfl := exec_cases ht
  · obtain ⟨hr, hm, -, -⟩ := hf
    exact Prog.run_inv (progOf_allRegs_ok hp hr) hm hr _
  · exact hf.raise _

theorem State.Inv.runBoundary (h : s.Inv) {t : State} (ht : s.runBoundary = .next t) : t.Inv := by
  unfold State.runBoundary at ht
  split at ht
  · exact (h.commit ‹_›).exec ht
  · cases ht; exact h.raise _

theorem State.Inv.finishInstr (h : s.Inv) : s.finishInstr.Inv := by
  unfold State.finishInstr
  split
  · exact h
  · exact h
  · have hl := h.latchOpcode s.dbus
    dsimp only
    split
    · rename_i p _ hp
      obtain ⟨hr, hm, -, -⟩ := hl
      exact Prog.run_inv (progOf_allRegs_ok hp hr) hm hr _
    · exact hl.raise _
  · rename_i op k hk
    split
    · rename_i q hq
      obtain ⟨-, hm, hb, -⟩ := h.consume
      have hb := hb op k (by simpa using hk)
      exact Prog.run_inv (State.rowsFrom_allRegs hb hq) hm hb _
    · exact h

/-- Settles O45: a step is a boundary's instruction or the rest of one in progress, and both keep the invariant. -/
theorem invariantStep : Obligations.InvariantStep := by
  intro s t h ht
  unfold Sys2Proof.Machine.step at ht
  split at ht
  · split at ht
    · cases ht
    · exact h.runBoundary ht
    · cases ht; exact h.finishInstr
    · cases ht; exact h.finishInstr
  · cases ht

/-! ## Calls of `advance()` -/

/-- A row's cycle keeps the latches, and puts them into the pending write-back or nothing there. -/
theorem State.Inv.perform (h : s.Inv) {p : Prog} (hp : p.AllRegs Regs.Ok) (hb : s.lat.base.Ok) :
    (s.perform p).2.Inv := by
  have hr := State.perform_allRegs hp s
  obtain ⟨-, hm, -, hw⟩ := h
  cases p with
  | readLast src a r wb =>
    refine ⟨hr, hm, nofun, fun l hl => ?_⟩
    cases wb <;> cases hl
    exact hb
  | writeLast a v r => exact ⟨hr, hm, nofun, nofun⟩
  | idleLast r => exact ⟨hr, hm, nofun, nofun⟩
  | read | write | idle => exact ⟨hr, hm, fun _ _ _ => hb, hw⟩

theorem State.Inv.fetchStep (h : s.Inv) : s.fetchStep.2.Inv := by
  unfold State.fetchStep
  split
  · exact (h.commit ‹_›).startFetch
  · exact h.raise _

theorem State.Inv.decodeStep (h : s.Inv) : s.decodeStep.2.Inv := by
  have hl := h.latchOpcode s.dbus
  unfold State.decodeStep
  dsimp only
  split
  · rename_i p _ hp
    have ⟨hr, _⟩ := hl
    exact hl.perform (progOf_allRegs_ok hp hr) hr
  · exact hl.raise _

theorem State.Inv.instrStep (h : s.Inv) {op : Byte} {k : Nat} (hc : s.cont = .step op k) : (s.instrStep op k).2.Inv := by
  have hb : s.consume.lat.base.Ok := by
    obtain ⟨-, -, hb, -⟩ := h
    simpa using hb op k hc
  unfold State.instrStep
  split
  · exact h.consume.perform (State.rowsFrom_allRegs hb ‹_›) hb
  · exact h.fetchStep

theorem State.Inv.advance (h : s.Inv) : s.advance.2.Inv := by
  unfold State.advance
  split
  · split
    · exact h
    · exact h.fetchStep
    · exact h.decodeStep
    · exact h.instrStep ‹_›
  · exact h

theorem State.Inv.serve (h : s.Inv) (o : CycleOutcome) : (s.serve o).Inv := by
  cases o with
  | read => exact h.supply _
  | write => exact h.store
  | internal | fault | refused => exact h

end

/-- Settles O46: each of the three steps of `advance()` keeps the invariant, and so does what the host does after it. -/
theorem invariantAdvance : Obligations.InvariantAdvance :=
  fun _ b h => ⟨h.advance, h.advance.supply b, h.advance.serve _⟩

/-- Settles O44: reset fixes every register that the invariants speak of, and leaves memory. -/
theorem invariantAtReset : Obligations.InvariantAtReset :=
  ⟨⟨Regs.ok_reset, State.reset_mem_wf, nofun, nofun⟩,
   fun _ v dr _ hm => ⟨Regs.ok_resetTo v dr, hm, nofun, nofun⟩⟩

end Sys2Proof.Machine
end

section
/-! Which instructions may change a flag, DB, D or PB (10_state.md R24 to R26, R31 to R38), and the status byte (R30). -/

namespace Sys2Proof.Machine

open Sys2Proof.Claims

/-- What the rules let an instruction with this opcode change of the bank and direct registers (R24 to R26) and of the
flags (R38): `q` agrees with `r` wherever the opcode is not listed. -/
structure Framed (op : Byte) (r q : Regs) : Prop where
  db : op ∉ [0xAB#8, 0x54#8, 0x44#8] → q.db = r.db
  d : op ∉ [0x5B#8, 0x2B#8] → q.d = r.d
  pb : op ∉ [0x5C#8, 0xDC#8, 0x22#8, 0x6B#8] → q.pb = r.pb
  fN : op ∉ writersN → q.fN = r.fN
  fV : op ∉ writersV → q.fV = r.fV
  fM : op ∉ writersM → q.fM = r.fM
  fX : op ∉ writersM → q.fX = r.fX
  fD : op ∉ writersD → q.fD = r.fD
  fI : op ∉ writersI → q.fI = r.fI
  fZ : op ∉ writersZ → q.fZ = r.fZ
  fC : op ∉ writersC → q.fC = r.fC
  fE : op ∉ [0xFB#8] → q.fE = r.fE

theorem Framed.refl (op : Byte) (r : Regs) : Framed op r r := by constructor <;> exact fun _ => rfl

/-- PLP, REP and SEP are listed for every flag of the status byte. -/
theorem statusWriters_listed : ∀ op ∈ [0x28#8, 0xC2#8, 0xE2#8], op ∈ writersN ∧ op ∈ writersV ∧ op ∈ writersM ∧
    op ∈ writersD ∧ op ∈ writersI ∧ op ∈ writersZ ∧ op ∈ writersC := by decide

/-- XCE is listed for the width flags and C. -/
theorem exchangeWriters_listed : ∀ op ∈ [0xFB#8], op ∈ writersM ∧ op ∈ writersC := by decide

theorem Regs.exchangeCE_eq (r : Regs) : r.exchangeCE =
    { r with fC := r.fE, fE := r.fC, fM := r.fC || r.fM, fX := r.fC || r.fX,
             x := r.exchangeCE.x, y := r.exchangeCE.y, s := r.exchangeCE.s } := by
  cases c : r.fC <;> simp [Regs.exchangeCE, Regs.enterEmulation, c]

/-- A write that the opcode is listed for stays within its frame. -/
theorem RegWrite.keeps_framed {op : Byte} {φ : RegWrite} (h : listed op φ = true) (r : Regs) :
    φ.Keeps (Framed op r) := by
  cases φ with
  | pc | a => exact fun q w f => { f with }
  | x | y => exact fun q w f _ => { f with }
  | s => exact fun q w f => { f with }
  | db => exact fun q b f => { f with db := absurd (List.contains_iff_mem.1 h) }
  | d => exact fun q b f => { f with d := absurd (List.contains_iff_mem.1 h) }
  | pb => exact fun q b f => { f with pb := absurd (List.contains_iff_mem.1 h) }
  | n => exact fun q b f => { f with fN := absurd (List.contains_iff_mem.1 h) }
  | v => exact fun q b f => { f with fV := absurd (List.contains_iff_mem.1 h) }
  | z => exact fun q b f => { f with fZ := absurd (List.contains_iff_mem.1 h) }
  | c => exact fun q b f => { f with fC := absurd (List.contains_iff_mem.1 h) }
  | dec => exact fun q b f => { f with fD := absurd (List.contains_iff_mem.1 h) }
  | irq => exact fun q b f => { f with fI := absurd (List.contains_iff_mem.1 h) }
  | status =>
    obtain ⟨hN, hV, hM, hD, hI, hZ, hC⟩ := statusWriters_listed op (List.contains_iff_mem.1 h)
    exact fun q b f => { f with
      fN := absurd hN, fV := absurd hV, fM := absurd hM, fX := absurd hM, fD := absurd hD, fI := absurd hI
      fZ := absurd hZ, fC := absurd hC }
  | exchange =>
    have hop : op ∈ [0xFB#8] := List.contains_iff_mem.1 h
    obtain ⟨hM, hC⟩ := exchangeWriters_listed op hop
    exact fun q f => q.exchangeCE_eq ▸ { f with
      fM := absurd hM, fX := absurd hM, fC := absurd hC, fE := absurd hop }

/-- Every instruction stays within the frame of its opcode. -/
theorem exec_framed {i : Instr} {s t : State} (h : exec i s = .next t) : Framed i.opcode s.regs t.regs :=
  exec_regs h (fun _ hφ => RegWrite.keeps_framed hφ _) (Framed.refl _ _)

/-- Settles O32: the part of the opcode's frame about DB, D and PB. -/
theorem bankAndDirectWriters : Obligations.BankAndDirectWriters := fun _ _ _ h =>
  have f := exec_framed h
  ⟨f.db, f.d, f.pb⟩

/-- Settles O33: the part of the opcode's frame about the flags. -/
theorem flagWriters : Obligations.FlagWriters := fun _ _ _ h =>
  have f := exec_framed h
  ⟨f.fN, f.fV, f.fM, f.fX, f.fD, f.fI, f.fZ, f.fC, f.fE⟩

/-- The opcode of XCE is no other instruction's. -/
theorem eq_xce_of_opcode {i : Instr} (h : i.opcode = 0xFB#8) : i = .xce := by
  cases i with
  | xce => rfl
  | _ => nomatch h

/-- Emulation mode with the width flags of `r`. -/
def Regs.EmulatesWith (r q : Regs) : Prop := q.fE = true ∧ q.fM = r.fM ∧ q.fX = r.fX

/-- No write but the exchange leaves emulation mode or changes the width flags in it: `set_P` ignores them there (R34,
R369). -/
theorem RegWrite.keeps_emulatesWith {φ : RegWrite} (h : φ ≠ .exchange) (r : Regs) : φ.Keeps r.EmulatesWith := by
  cases φ with
  | status =>
    rintro q b ⟨hE, hM, hX⟩
    simp [Regs.EmulatesWith, hE, hM, hX]
  | exchange => exact absurd rfl h
  | x | y => exact fun _ _ h _ => h
  | _ => exact fun _ _ h => h

/-- Settles O31: the frame for E, the register invariants for what E forces, and no write but XCE's for the rest. -/
theorem emulationForcesWidths : Obligations.EmulationForcesWidths := by
  intro i s t h
  have hop : i ≠ .xce → i.opcode ∉ [0xFB#8] := fun hi hm => hi (eq_xce_of_opcode (List.mem_singleton.1 hm))
  refine ⟨fun hi => (exec_framed h).fE (hop hi), fun hs hE => ?_, fun hi hE => ?_⟩
  · exact (exec_regs h (fun φ _ => φ.keeps_ok) hs).widths hE
  · refine (exec_regs (P := s.regs.EmulatesWith) h (fun φ hφ => RegWrite.keeps_emulatesWith ?_ _)
      ⟨hE, rfl, rfl⟩).2
    rintro rfl
    exact hop hi (List.contains_iff_mem.1 hφ)

/-- The bits of P, bit 7 first; bits 5 and 4 are a width flag or E (R37). -/
theorem Regs.getLsbD_p (r : Regs) :
    r.p.getLsbD 7 = r.fN ∧ r.p.getLsbD 6 = r.fV ∧ r.p.getLsbD 5 = (r.fM || r.fE) ∧ r.p.getLsbD 4 = (r.fX || r.fE) ∧
    r.p.getLsbD 3 = r.fD ∧ r.p.getLsbD 2 = r.fI ∧ r.p.getLsbD 1 = r.fZ ∧ r.p.getLsbD 0 = r.fC := by
  simp only [Regs.p, byteOfBits, BitVec.getLsbD_append, BitVec.getLsbD_ofBool]
  simp

/-- Settles O21: each bit of P is read off its layout; in emulation mode the register invariants set M and X_flag. -/
theorem statusByte : Obligations.StatusByte := by
  intro r
  obtain ⟨h7, h6, h5, h4, h3, h2, h1, h0⟩ := r.getLsbD_p
  refine ⟨h7, h6, h3, h2, h1, h0, fun e => ?_, fun e => ?_, fun hr => ?_⟩
  · simp only [h5, h4, e, Bool.or_false, and_self]
  · simp only [h5, h4, e, Bool.or_true, and_self]
  · exact ⟨h5.trans (Bool.or_eq_left_iff_imp.2 fun e => (hr.widths e).1),
      h4.trans (Bool.or_eq_left_iff_imp.2 fun e => (hr.widths e).2)⟩

end Sys2Proof.Machine
end

section
/-! How the stack pointer steps (10_state.md R28; 20_memory.md R71). -/

namespace Sys2Proof.Machine

open Sys2Proof.Claims

/-- The low byte of a sum is the sum of the low bytes: no carry comes in from above. -/
theorem lo8_add (v w : Word) : lo8 (v + w) = lo8 v + lo8 w := by
  apply BitVec.eq_of_toNat_eq
  simp only [toNat_lo8, BitVec.toNat_add]
  omega

/-- The low byte of a difference is the difference of the low bytes: no borrow comes in from above. -/
theorem lo8_sub (v w : Word) : lo8 (v - w) = lo8 v - lo8 w := by
  apply BitVec.eq_of_toNat_eq
  simp only [toNat_lo8, BitVec.toNat_sub]
  omega

/-- In native mode S holds what is written to it (R28). -/
theorem Regs.setS_of_native {r : Regs} (h : r.fE = false) (v : Word) : r.setS v = { r with s := v } := by
  simp [Regs.setS, h]

/-- In emulation mode S holds the low byte of what is written to it, within page 1 (R28). -/
theorem Regs.setS_of_emulation {r : Regs} (h : r.fE = true) (v : Word) :
    r.setS v = { r with s := word 0x01#8 (lo8 v) } := by
  simp [Regs.setS, h]

/-- Settles O59: a step of the pointer is a write of S, and in emulation mode the low byte of S ± 1 is SL ± 1. -/
theorem stackPointerSteps : Obligations.StackPointerSteps := by
  refine fun r => ⟨fun h => ⟨Regs.setS_of_native h _, Regs.setS_of_native h _⟩, fun h => ⟨?_, ?_⟩⟩
  · calc r.decS = { r with s := word 0x01#8 (lo8 (r.s - 1#16)) } := Regs.setS_of_emulation h _
      _ = { r with s := word 0x01#8 (lo8 r.s - 1#8) } := by rw [lo8_sub]; rfl
  · calc r.incS = { r with s := word 0x01#8 (lo8 (r.s + 1#16)) } := Regs.setS_of_emulation h _
      _ = { r with s := word 0x01#8 (lo8 r.s + 1#8) } := by rw [lo8_add]; rfl

end Sys2Proof.Machine
end

section
/-! Encoding and decoding (30_encoding.md R90 to R101). The operand bytes of an instruction are one field; there are
seven kinds of field, one for each format (R91). What a field's bytes and its value have to do with each other is a law
of the field, proved seven times; that every instruction is the constructor of its opcode on a value of its field is
read off the tables, row by row. Decoding after encoding and encoding after decoding follow from the laws alone. -/

namespace Sys2Proof

open Machine

/-- The operand field of a format (R91 to R96): the bytes of a value, the value that three bytes after the opcode are read
as, and the values that fit the width flags (R97). -/
structure Field (f : Format) (α : Type) where
  /-- The operand bytes of a value, in the order of their addresses. -/
  bytes : α → List Byte
  /-- The value read under the width flags from the three bytes after the opcode. -/
  read : Bool → Bool → Byte → Byte → Byte → α
  /-- Whether a value has the width that the flags in force give it. -/
  fits : Bool → Bool → α → Bool
  fits_read : ∀ m8 x8 b1 b2 b3, fits m8 x8 (read m8 x8 b1 b2 b3) = true
  bytes_read : ∀ m8 x8 b1 b2 b3, bytes (read m8 x8 b1 b2 b3) = [b1, b2, b3].take (f.operands m8 x8)
  length_bytes : ∀ m8 x8 v, fits m8 x8 v = true → (bytes v).length = f.operands m8 x8
  read_bytes : ∀ m8 x8 v rest, fits m8 x8 v = true →
    read m8 x8 ((bytes v ++ rest).getD 0 0x00#8) ((bytes v ++ rest).getD 1 0x00#8) ((bytes v ++ rest).getD 2 0x00#8) = v

/-! ## The seven fields -/

theorem bytesW_word (h l : Byte) : bytesW (word h l) = [l, h] := by simp [bytesW]

theorem bytesL_longOf (b1 b2 b3 : Byte) : bytesL (longOf b1 b2 b3) = [b1, b2, b3] := by simp [bytesL, longOf]

theorem longOf_bytes (a : Addr) : longOf (lo8 (offsetOf a)) (hi8 (offsetOf a)) (bankOf a) = a := by simp [longOf]

theorem fits_immOf (w8 : Bool) (b1 b2 : Byte) : (immOf w8 b1 b2).fits w8 = true := by cases w8 <;> rfl

/-- An immediate has one byte at 8 bits and two at 16. -/
theorem immBytes_immOf (w8 : Bool) (b1 b2 b3 : Byte) :
    immBytes (immOf w8 b1 b2) = [b1, b2, b3].take (if w8 then 1 else 2) := by
  cases w8 with
  | true => rfl
  | false => exact bytesW_word b2 b1

/-- An immediate that fits the width is read back from its bytes, whatever follows them. -/
theorem immOf_immBytes (w8 : Bool) (v : Imm) (rest : List Byte) (h : v.fits w8 = true) :
    immOf w8 ((immBytes v ++ rest).getD 0 0x00#8) ((immBytes v ++ rest).getD 1 0x00#8) = v := by
  cases v with
  | b8 v => obtain rfl : w8 = true := h; rfl
  | b16 v =>
    obtain rfl : w8 = false := by simpa [Imm.fits] using h
    exact congrArg Imm.b16 (word_hi8_lo8 v)

/-- OP: no operand. -/
def noField : Field .op Unit where
  bytes _ := []
  read _ _ _ _ _ := ()
  fits _ _ _ := true
  fits_read _ _ _ _ _ := rfl
  bytes_read _ _ _ _ _ := rfl
  length_bytes _ _ _ _ := rfl
  read_bytes _ _ _ _ _ := rfl

/-- OP_B: one byte. -/
def byteField : Field .opB Byte where
  bytes v := [v]
  read _ _ b1 _ _ := b1
  fits _ _ _ := true
  fits_read _ _ _ _ _ := rfl
  bytes_read _ _ _ _ _ := rfl
  length_bytes _ _ _ _ := rfl
  read_bytes _ _ _ _ _ := rfl

/-- OP_W: two bytes, low byte first. -/
def wordField : Field .opW Word where
  bytes := bytesW
  read _ _ b1 b2 _ := word b2 b1
  fits _ _ _ := true
  fits_read _ _ _ _ _ := rfl
  bytes_read _ _ b1 b2 _ := bytesW_word b2 b1
  length_bytes _ _ _ _ := rfl
  read_bytes _ _ v _ _ := word_hi8_lo8 v

/-- OP_L: three bytes, the bank last. -/
def longField : Field .opL Addr where
  bytes := bytesL
  read _ _ := longOf
  fits _ _ _ := true
  fits_read _ _ _ _ _ := rfl
  bytes_read _ _ := bytesL_longOf
  length_bytes _ _ _ _ := rfl
  read_bytes _ _ v _ _ := longOf_bytes v

/-- OP_BB: the bank bytes of a block move. -/
def pairField : Field .opBb (Byte × Byte) where
  bytes v := [v.1, v.2]
  read _ _ b1 b2 _ := (b1, b2)
  fits _ _ _ := true
  fits_read _ _ _ _ _ := rfl
  bytes_read _ _ _ _ _ := rfl
  length_bytes _ _ _ _ := rfl
  read_bytes _ _ _ _ _ := rfl

/-- OP_IM: an immediate at the width of the accumulator. -/
def immMField : Field .opIm Imm where
  bytes := immBytes
  read m8 _ b1 b2 _ := immOf m8 b1 b2
  fits m8 _ v := v.fits m8
  fits_read m8 _ b1 b2 _ := fits_immOf m8 b1 b2
  bytes_read m8 _ := immBytes_immOf m8
  length_bytes _ _ v h := Laws.EncodedForm.immediate_length v h
  read_bytes m8 _ := immOf_immBytes m8

/-- OP_IX: an immediate at the width of the index registers. -/
def immXField : Field .opIx Imm where
  bytes := immBytes
  read _ x8 b1 b2 _ := immOf x8 b1 b2
  fits _ x8 v := v.fits x8
  fits_read _ x8 b1 b2 _ := fits_immOf x8 b1 b2
  bytes_read _ x8 := immBytes_immOf x8
  length_bytes _ _ v h := Laws.EncodedForm.immediate_length v h
  read_bytes _ x8 := immOf_immBytes x8

/-! ## Every instruction is made of its opcode and a value of a field -/

/-- `k` makes the instructions of the opcode `op` from the values of the field `F`: so say the opcode map (R101), the
formats (R98), the operand bytes and the decoder. -/
structure Field.Makes {f : Format} {α : Type} (F : Field f α) (op : Byte) (k : α → Instr) : Prop where
  opcode_eq : ∀ v, (k v).opcode = op
  format_eq : formatOf op = f
  bytes_eq : ∀ v, (k v).operandBytes = F.bytes v
  wellFormed_eq : ∀ m8 x8 v, (k v).wellFormed m8 x8 = F.fits m8 x8 v
  decodeOp_eq : ∀ m8 x8 b1 b2 b3, decodeOp m8 x8 op b1 b2 b3 = k (F.read m8 x8 b1 b2 b3)

/-- The instruction is made from a value of a field. -/
inductive Instr.Made : Instr → Prop where
  | intro {f : Format} {α : Type} {op : Byte} (F : Field f α) (k : α → Instr) (v : α) (h : F.Makes op k) : Made (k v)

/-- An instruction without operands is made from the empty field. -/
theorem Instr.made_of_noField {i : Instr} (h : noField.Makes i.opcode fun _ => i) : i.Made := .intro noField _ () h

/-- Every instruction is made from a value of the field of its format: each row of the tables, looked up. -/
theorem Instr.made (i : Instr) : i.Made := by
  cases i with
  | php | aslA | phd | clc | incA | tcs | plp | rolA | pld | sec | decA | tsc | rti | pha | lsrA | phk | cli
  | phy | tcd | rts | pla | rorA | rtl | sei | ply | tdc | dey | txa | phb | tya | txs | txy | tay | tax
  | plb | clv | tsx | tyx | iny | dex | wai | cld | phx | stp | inx | nop | xba | sed | plx | xce =>
    exact made_of_noField (by constructor <;> intros <;> rfl)
  | brk v | oraDpXInd v | cop v | oraSr v | tsbDp v | oraDp v | aslDp v | oraDpLong v | bpl v | oraDpIndY v
  | oraDpInd v | oraSrIndY v | trbDp v | oraDpX v | aslDpX v | oraDpLongY v | andDpXInd v | andSr v
  | bitDp v | andDp v | rolDp v | andDpLong v | bmi v | andDpIndY v | andDpInd v | andSrIndY v | bitDpX v
  | andDpX v | rolDpX v | andDpLongY v | eorDpXInd v | wdm v | eorSr v | eorDp v | lsrDp v | eorDpLong v
  | bvc v | eorDpIndY v | eorDpInd v | eorSrIndY v | eorDpX v | lsrDpX v | eorDpLongY v | adcDpXInd v
  | adcSr v | stzDp v | adcDp v | rorDp v | adcDpLong v | bvs v | adcDpIndY v | adcDpInd v | adcSrIndY v
  | stzDpX v | adcDpX v | rorDpX v | adcDpLongY v | bra v | staDpXInd v | staSr v | styDp v | staDp v
  | stxDp v | staDpLong v | bcc v | staDpIndY v | staDpInd v | staSrIndY v | styDpX v | staDpX v | stxDpY v
  | staDpLongY v | ldaDpXInd v | ldaSr v | ldyDp v | ldaDp v | ldxDp v | ldaDpLong v | bcs v | ldaDpIndY v
  | ldaDpInd v | ldaSrIndY v | ldyDpX v | ldaDpX v | ldxDpY v | ldaDpLongY v | cmpDpXInd v | rep v | cmpSr v
  | cpyDp v | cmpDp v | decDp v | cmpDpLong v | bne v | cmpDpIndY v | cmpDpInd v | cmpSrIndY v | pei v
  | cmpDpX v | decDpX v | cmpDpLongY v | sbcDpXInd v | sep v | sbcSr v | cpxDp v | sbcDp v | incDp v
  | sbcDpLong v | beq v | sbcDpIndY v | sbcDpInd v | sbcSrIndY v | sbcDpX v | incDpX v | sbcDpLongY v =>
    exact .intro byteField _ v (by constructor <;> intros <;> rfl)
  | tsbAbs v | oraAbs v | aslAbs v | oraAbsY v | trbAbs v | oraAbsX v | aslAbsX v | jsrAbs v | bitAbs v
  | andAbs v | rolAbs v | andAbsY v | bitAbsX v | andAbsX v | rolAbsX v | jmpAbs v | eorAbs v | lsrAbs v
  | eorAbsY v | eorAbsX v | lsrAbsX v | per v | jmpInd v | adcAbs v | rorAbs v | adcAbsY v | jmpXInd v
  | adcAbsX v | rorAbsX v | brl v | styAbs v | staAbs v | stxAbs v | staAbsY v | stzAbs v | staAbsX v
  | stzAbsX v | ldyAbs v | ldaAbs v | ldxAbs v | ldaAbsY v | ldyAbsX v | ldaAbsX v | ldxAbsY v | cpyAbs v
  | cmpAbs v | decAbs v | cmpAbsY v | jmlIndLong v | cmpAbsX v | decAbsX v | cpxAbs v | sbcAbs v | incAbs v
  | pea v | sbcAbsY v | jsrXInd v | sbcAbsX v | incAbsX v =>
    exact .intro wordField _ v (by constructor <;> intros <;> rfl)
  | oraLong v | oraLongX v | jsl v | andLong v | andLongX v | eorLong v | jmlLong v | eorLongX v | adcLong v
  | adcLongX v | staLong v | staLongX v | ldaLong v | ldaLongX v | cmpLong v | cmpLongX v | sbcLong v
  | sbcLongX v =>
    exact .intro longField _ v (by constructor <;> intros <;> rfl)
  | oraImm v | andImm v | eorImm v | adcImm v | bitImm v | ldaImm v | cmpImm v | sbcImm v =>
    exact .intro immMField _ v (by constructor <;> intros <;> rfl)
  | ldyImm v | ldxImm v | cpyImm v | cpxImm v =>
    exact .intro immXField _ v (by constructor <;> intros <;> rfl)
  | mvp dst src => exact .intro pairField (fun v => .mvp v.1 v.2) (dst, src) (by constructor <;> intros <;> rfl)
  | mvn dst src => exact .intro pairField (fun v => .mvn v.1 v.2) (dst, src) (by constructor <;> intros <;> rfl)

/-- Every opcode makes its instructions from some field. -/
theorem exists_makes (op : Byte) : ∃ (f : Format) (α : Type) (F : Field f α) (k : α → Instr), F.Makes op k := by
  obtain ⟨i, rfl⟩ := Machine.exists_opcode_eq op
  obtain ⟨F, k, v, h⟩ := i.made
  exact ⟨_, _, F, k, h.opcode_eq v ▸ h⟩

/-! ## The decoder on a list of bytes -/

/-- No format has more than three operand bytes (R90). -/
theorem Format.operands_le_three (f : Format) (m8 x8 : Bool) : f.operands m8 x8 ≤ 3 := by
  revert m8 x8
  cases f <;> decide

/-- The decoder answers exactly where all operand bytes are there. -/
theorem decode_cons_eq_ok_iff {m8 x8 : Bool} {op : Byte} {bs : List Byte} {r : Instr × List Byte} :
    decode m8 x8 (op :: bs) = .ok r ↔ (formatOf op).operands m8 x8 ≤ bs.length ∧
      r = (decodeOp m8 x8 op (bs.getD 0 0x00#8) (bs.getD 1 0x00#8) (bs.getD 2 0x00#8),
        bs.drop ((formatOf op).operands m8 x8)) := by
  by_cases h : (formatOf op).operands m8 x8 ≤ bs.length
  · simp only [decode, if_neg (Nat.not_lt.2 h)]
    exact ⟨fun e => ⟨h, (Except.ok.inj e).symm⟩, fun e => congrArg Except.ok e.2.symm⟩
  · simp only [decode, if_pos (Nat.lt_of_not_le h)]
    exact ⟨nofun, fun e => absurd e.1 h⟩

/-- The first few of three bytes picked from a list are the first few of the list. -/
theorem take_getD {bs : List Byte} {n : Nat} (hn : n ≤ 3) (h : n ≤ bs.length) :
    [bs.getD 0 0x00#8, bs.getD 1 0x00#8, bs.getD 2 0x00#8].take n = bs.take n := by
  match n, bs with
  | 0, _ => rfl
  | 1, _ :: _ => rfl
  | 2, _ :: _ :: _ => rfl
  | 3, _ :: _ :: _ :: _ => rfl

/-- A well-formed instruction has as many operand bytes as the format of its opcode says (R97). -/
theorem Instr.length_operandBytes {m8 x8 : Bool} {i : Instr} (hi : i.wellFormed m8 x8 = true) :
    i.operandBytes.length = (formatOf i.opcode).operands m8 x8 := by
  obtain ⟨F, k, v, h⟩ := i.made
  rw [h.wellFormed_eq] at hi
  rw [h.bytes_eq, h.opcode_eq, h.format_eq, F.length_bytes _ _ _ hi]

/-- The opcode of a well-formed instruction and the bytes from its operand on are that instruction. -/
theorem Instr.decodeOp_operandBytes {m8 x8 : Bool} {i : Instr} (hi : i.wellFormed m8 x8 = true) (rest : List Byte) :
    decodeOp m8 x8 i.opcode ((i.operandBytes ++ rest).getD 0 0x00#8) ((i.operandBytes ++ rest).getD 1 0x00#8)
      ((i.operandBytes ++ rest).getD 2 0x00#8) = i := by
  obtain ⟨F, k, v, h⟩ := i.made
  rw [h.wellFormed_eq] at hi
  rw [h.bytes_eq, h.opcode_eq, h.decodeOp_eq, F.read_bytes _ _ _ _ hi]

/-- What an opcode and any three bytes stand for is well formed, with that opcode, and its operand bytes are the first of
the three (R100). -/
theorem decodeOp_spec (m8 x8 : Bool) (op b1 b2 b3 : Byte) :
    (decodeOp m8 x8 op b1 b2 b3).wellFormed m8 x8 = true ∧ (decodeOp m8 x8 op b1 b2 b3).opcode = op ∧
      (decodeOp m8 x8 op b1 b2 b3).operandBytes = [b1, b2, b3].take ((formatOf op).operands m8 x8) := by
  obtain ⟨f, α, F, k, h⟩ := exists_makes op
  rw [h.decodeOp_eq, h.wellFormed_eq, h.opcode_eq, h.bytes_eq, h.format_eq]
  exact ⟨F.fits_read _ _ _ _ _, rfl, F.bytes_read _ _ _ _ _⟩

/-- Settles O52: the operand bytes are as many as the format says, and the decoder reads the operand back from them. -/
theorem decodeEncode : Obligations.DecodeEncode := by
  intro m8 x8 i rest hi
  rw [encode, List.cons_append, decode_cons_eq_ok_iff, ← Instr.length_operandBytes hi, List.drop_left,
    Instr.decodeOp_operandBytes hi, List.length_append]
  exact ⟨Nat.le_add_right _ _, rfl⟩

/-- Settles O53: what was read is well formed and has the bytes that were read; four bytes hold the opcode and the three
operand bytes of the longest format. -/
theorem encodeDecode : Obligations.EncodeDecode := by
  intro m8 x8 bytes
  cases bytes with
  | nil => exact ⟨nofun, nofun⟩
  | cons op bs =>
    have hle := (formatOf op).operands_le_three m8 x8
    refine ⟨fun i rest h => ?_, fun h => ⟨_, _, decode_cons_eq_ok_iff.2 ⟨?_, rfl⟩⟩⟩
    · obtain ⟨hlen, hr⟩ := decode_cons_eq_ok_iff.1 h
      obtain ⟨rfl, rfl⟩ := Prod.mk.inj hr
      obtain ⟨hwf, hop, hbytes⟩ := decodeOp_spec m8 x8 op (bs.getD 0 0x00#8) (bs.getD 1 0x00#8) (bs.getD 2 0x00#8)
      refine ⟨hwf, ?_⟩
      rw [encode, hop, hbytes, take_getD hle hlen, List.cons_append, List.take_append_drop]
    · exact Nat.le_trans hle (Nat.le_of_succ_le_succ h)

/-! ## Lengths -/

/-- The opcodes whose immediate is at the width of the accumulator: no others have the format OP_IM (R98). -/
theorem formatOf_eq_opIm_iff (op : Byte) : formatOf op = .opIm ↔
    op ∈ [0x09#8, 0x29#8, 0x49#8, 0x69#8, 0x89#8, 0xA9#8, 0xC9#8, 0xE9#8] := by
  revert op; decide

/-- The opcodes whose immediate is at the width of the index registers: no others have the format OP_IX (R98). -/
theorem formatOf_eq_opIx_iff (op : Byte) : formatOf op = .opIx ↔ op ∈ [0xA0#8, 0xA2#8, 0xC0#8, 0xE0#8] := by
  revert op; decide

/-- Only for OP_IM and OP_IX does the length depend on a width flag (R97). -/
theorem Format.length_eq (f : Format) (m8 x8 : Bool) : 1 + f.operands m8 x8 =
    if f = .opIm then (if m8 then 2 else 3) else if f = .opIx then (if x8 then 2 else 3)
    else 1 + f.operands true true := by
  cases f with
  | opIm => cases m8 <;> rfl
  | opIx => cases x8 <;> rfl
  | _ => rfl

/-- Settles O54: the opcode byte and the operand bytes of its format, of which OP_IM and OP_IX are those listed. -/
theorem lengths : Obligations.Lengths := by
  intro m8 x8 i hi
  rw [encode, List.length_cons, Instr.length_operandBytes hi, Nat.add_comm, Format.length_eq]
  simp only [formatOf_eq_opIm_iff, formatOf_eq_opIx_iff]

/-- Settles O55: each word is decoded. -/
theorem encodingSamples : Obligations.EncodingSamples :=
  ⟨rfl, rfl, rfl, rfl, rfl, rfl, rfl, rfl, rfl, rfl, rfl, rfl, rfl⟩

end Sys2Proof
end

section
/-! An instruction placed at PB:PC is the next one to run (30_encoding.md R90, R97; 42_dispatch.md R202, R212; 10_state.md
R27). -/

namespace Sys2Proof.Machine

/-! ## Bytes written in a row -/

/-- Offsets less than a whole bank apart are different. -/
theorem ne_add_one_add_ofNat {o : Word} {k : Nat} (hk : k < 65535) : o ≠ o + 1#16 + BitVec.ofNat 16 k := by
  intro h
  have := congrArg BitVec.toNat h
  simp only [BitVec.toNat_add, BitVec.toNat_ofNat] at this
  omega

/-- The offset of a byte counted from the second byte on. -/
theorem add_ofNat_succ (o : Word) (k : Nat) : o + BitVec.ofNat 16 (k + 1) = o + 1#16 + BitVec.ofNat 16 k := by
  rw [Nat.add_comm, BitVec.ofNat_add, BitVec.add_assoc]

/-- An address where none of the bytes goes keeps its byte. -/
theorem Memory.get_setBytes_other (m : Memory) (bank : Byte) (o : Word) (bs : List Byte) {a : Nat}
    (ha : ∀ k < bs.length, a ≠ (addr bank (o + BitVec.ofNat 16 k)).toNat) : (m.setBytes bank o bs).get a = m.get a := by
  induction bs generalizing m o with
  | nil => rfl
  | cons b bs ih =>
    have h0 : a ≠ (addr bank o).toNat := by simpa using ha 0 (Nat.zero_lt_succ _)
    calc ((m.set (addr bank o).toNat b).setBytes bank (o + 1#16) bs).get a
      _ = (m.set (addr bank o).toNat b).get a :=
        ih _ _ fun k hk => add_ofNat_succ o k ▸ ha (k + 1) (Nat.succ_lt_succ hk)
      _ = m.get a := Memory.get_set_other m b h0

/-- Each of the bytes is read where it was put, as long as they fill the bank no more than once. -/
theorem Memory.get_setBytes {m : Memory} (hm : m.wf = true) (bank : Byte) (o : Word) {bs : List Byte}
    (hlen : bs.length ≤ 65536) {k : Nat} (hk : k < bs.length) :
    (m.setBytes bank o bs).get (addr bank (o + BitVec.ofNat 16 k)).toNat = bs[k] := by
  induction bs generalizing m o k with
  | nil => exact absurd hk (Nat.not_lt_zero k)
  | cons b bs ih =>
    have hlen' : bs.length ≤ 65535 := Nat.le_of_succ_le_succ hlen
    cases k with
    | zero =>
      have hother : ∀ j < bs.length, (addr bank o).toNat ≠ (addr bank (o + 1#16 + BitVec.ofNat 16 j)).toNat :=
        fun j hj h => ne_add_one_add_ofNat (Nat.lt_of_lt_of_le hj hlen') ((addr_inj ..).1 (BitVec.eq_of_toNat_eq h)).2
      rw [BitVec.add_zero, List.getElem_cons_zero]
      exact (Memory.get_setBytes_other _ _ _ _ hother).trans (Memory.get_set_same hm _ _)
    | succ k =>
      rw [add_ofNat_succ]
      exact ih (Memory.set_wf hm _ _) _ (Nat.le_trans hlen' (Nat.le_succ _)) (Nat.lt_of_succ_lt_succ hk)

/-! ## From the bytes to the step -/

/-- A committed boundary has no write-back to apply (R202). -/
theorem State.AtBoundary.commit {s : State} (h : s.AtBoundary) : s.commit = .ok s := by
  obtain ⟨-, -, hwb⟩ := h
  simp [State.commit, hwb]

/-- From a committed boundary a step is the instruction at PB:PC (R212). -/
theorem State.AtBoundary.step {s : State} (h : s.AtBoundary) : step s = exec s.fetchInstr s := by
  have hcommit := h.commit
  obtain ⟨hl, hc, -⟩ := h
  simp [Machine.step, hl, hc, State.runBoundary, hcommit]

/-- The instruction at PB:PC is the one that the four bytes there decode to (R97). -/
theorem State.fetchInstr_of_decode {s : State} {i : Instr} {rest : List Byte}
    (h : decode s.regs.fM s.regs.fX [s.codeByte 0, s.codeByte 1, s.codeByte 2, s.codeByte 3] = .ok (i, rest)) :
    s.fetchInstr = i :=
  (Prod.mk.inj (decode_cons_eq_ok_iff.1 h).2).1.symm

/-- Code placed at a committed boundary is what the instruction stream reads there (R27, R90). -/
theorem State.AtBoundary.codeByte_placeCode {s : State} (h : s.AtBoundary) (hm : s.mem.wf = true) {code : List Byte}
    (hlen : code.length ≤ 65536) {k : Nat} (hk : k < code.length) : (s.placeCode code).codeByte k = code[k] := by
  have hregs : s.fetchRegs = s.regs := by simp [State.fetchRegs, h.commit]
  simp only [State.codeByte, State.readMem, State.placeCode_mem, State.placeCode_regs, hregs]
  exact Memory.get_setBytes hm _ _ hlen hk

/-- The four bytes of the instruction stream begin with a placed code of at most four. -/
theorem State.AtBoundary.codeBytes_placeCode {s : State} (h : s.AtBoundary) (hm : s.mem.wf = true) {code : List Byte}
    (hlen : code.length ≤ 4) : code <+: (List.range 4).map (s.placeCode code).codeByte := by
  refine List.prefix_iff_getElem.2 ⟨by simpa using hlen, fun k hk => ?_⟩
  rw [List.getElem_map, List.getElem_range, h.codeByte_placeCode hm (by omega)]

/-- Settles O36: the bytes at PB:PC begin with the encoding, so they decode to the instruction, and a step runs that. -/
theorem placedInstructionRuns : Obligations.PlacedInstructionRuns := by
  intro s i hb hm hi
  have hlen : (encode i).length ≤ 4 := by
    rw [encode, List.length_cons, Instr.length_operandBytes hi]
    exact Nat.succ_le_succ (Format.operands_le_three _ _ _)
  have hb' : (s.placeCode (encode i)).AtBoundary := hb
  obtain ⟨rest, hrest⟩ := hb.codeBytes_placeCode hm hlen
  have hdec := decodeEncode _ _ i rest hi
  rw [hrest] at hdec
  rw [hb'.step, State.fetchInstr_of_decode hdec]

end Sys2Proof.Machine
end

section
/-! What the arithmetic and the shifts compute, in numbers (40_alu.md R121, R122, R126 to R129). Everything holds at every
width but 0, which has no sign bit and no room for a carry. -/

namespace Sys2Proof.Machine

/-! ## Addition and subtraction -/

section
variable {n : Nat} (a b : BitVec n) (cin : Bool)

/-- The result is the sum modulo 2^n (R121). -/
theorem addWithCarry_res_toNat : (addWithCarry a b cin).res.toNat = (a.toNat + b.toNat + cin.toNat) % 2 ^ n := by
  simp [addWithCarry]

/-- C is set exactly when the sum exceeds the width (R121). -/
theorem addWithCarry_c_iff : (addWithCarry a b cin).c = true ↔ 2 ^ n ≤ a.toNat + b.toNat + cin.toNat := by
  have := Nat.two_pow_pos n
  simp only [addWithCarry, decide_eq_true_eq]
  omega

/-- C is the bit above the result: the two together are the whole sum. -/
theorem addWithCarry_toNat :
    (addWithCarry a b cin).res.toNat + (addWithCarry a b cin).c.toNat * 2 ^ n = a.toNat + b.toNat + cin.toNat := by
  have ha := a.isLt
  have hb := b.isLt
  have hcin := cin.toNat_le
  rw [addWithCarry_res_toNat]
  by_cases h : 2 ^ n ≤ a.toNat + b.toNat + cin.toNat
  · rw [(addWithCarry_c_iff a b cin).2 h, Nat.mod_eq_sub_mod h, Nat.mod_eq_of_lt (by omega), Bool.toNat_true,
      Nat.one_mul, Nat.sub_add_cancel h]
  · rw [Bool.eq_false_iff.2 (mt (addWithCarry_c_iff a b cin).1 h), Nat.mod_eq_of_lt (Nat.not_le.1 h), Bool.toNat_false,
      Nat.zero_mul, Nat.add_zero]

/-- V is set exactly when the operands have one sign and the result has the other (R121). -/
theorem addWithCarry_v_iff_msb :
    (addWithCarry a b cin).v = true ↔ a.msb = b.msb ∧ (addWithCarry a b cin).res.msb ≠ a.msb := by
  simp only [addWithCarry, BitVec.msb_and, BitVec.msb_xor]
  cases a.msb <;> cases b.msb <;> simp

/-- The sign bit says whether twice the number reaches 2^n. -/
theorem msb_eq_decide_two_mul : a.msb = decide (2 ^ n ≤ 2 * a.toNat) := by
  rw [← Bool.coe_iff_coe, BitVec.msb_eq_true_iff_two_mul_ge, decide_eq_true_eq]

/-- At every width but 0 the number of words is even. -/
theorem two_dvd_two_pow {n : Nat} (hn : 0 < n) : 2 ∣ 2 ^ n :=
  Nat.pow_dvd_pow 2 hn

/-- V is set exactly when the signed sum is not the signed result: each sign says on which side of half of 2^n, an even
number, the operand lies, and the whole sum (`addWithCarry_toNat`) then decides. -/
theorem addWithCarry_v_iff (hn : 0 < n) : (addWithCarry a b cin).v = true ↔
    (addWithCarry a b cin).res.toInt ≠ a.toInt + b.toInt + (if cin then 1 else 0) := by
  have hsum := addWithCarry_toNat a b cin
  have hcin : (if cin then 1 else 0 : Int) = cin.toNat := by cases cin <;> rfl
  have heven : 2 ∣ 2 ^ n := two_dvd_two_pow hn
  have ha := a.isLt
  have hb := b.isLt
  have hcin_le := cin.toNat_le
  rw [addWithCarry_v_iff_msb, hcin]
  generalize (addWithCarry a b cin).res = r, (addWithCarry a b cin).c = c at *
  have hr := r.isLt
  simp only [BitVec.toInt_eq_toNat_cond, msb_eq_decide_two_mul, decide_eq_decide, ne_eq]
  cases c with
  | false =>
    rw [Bool.toNat_false, Nat.zero_mul] at hsum
    omega
  | true =>
    rw [Bool.toNat_true, Nat.one_mul] at hsum
    omega

/-- The result as a sum of bit vectors. -/
theorem addWithCarry_res : (addWithCarry a b cin).res = a + b + (if cin then 1#n else 0#n) := by
  cases cin <;> simp [addWithCarry, BitVec.ofNat_add]

/-- The complement of a signed number is one less than its negative. -/
theorem toInt_not_eq (hn : 0 < n) : (~~~b).toInt = -b.toInt - 1 := by
  have heven : 2 ∣ 2 ^ n := two_dvd_two_pow hn
  have hb := b.isLt
  rw [BitVec.toInt_eq_toNat_cond, BitVec.toInt_eq_toNat_cond, BitVec.toNat_not]
  omega

/-- The result is the difference less the borrow: the complement of b is -b - 1 (R122). -/
theorem subWithBorrow_res : (subWithBorrow a b cin).res = a - b - (if cin then 0#n else 1#n) := by
  have hborrow : -1#n + (if cin then 1#n else 0#n) = -(if cin then 0#n else 1#n) := by
    cases cin
    · simp only [Bool.false_eq_true, if_false, BitVec.add_zero]
    · simp only [if_true, BitVec.add_left_neg, BitVec.neg_zero]
  calc (subWithBorrow a b cin).res
    _ = a + (-b - 1#n) + (if cin then 1#n else 0#n) := by
      rw [subWithBorrow, addWithCarry_res, BitVec.not_eq_neg_add]
    _ = a + -b + (-1#n + (if cin then 1#n else 0#n)) := by
      rw [BitVec.sub_eq_add_neg (-b), ← BitVec.add_assoc, BitVec.add_assoc (a + -b)]
    _ = a - b - (if cin then 0#n else 1#n) := by
      rw [hborrow, ← BitVec.sub_eq_add_neg, ← BitVec.sub_eq_add_neg]

/-- C is set exactly when no borrow occurred (R122). -/
theorem subWithBorrow_c_iff : (subWithBorrow a b cin).c = true ↔ b.toNat < a.toNat + cin.toNat := by
  have hb := b.isLt
  rw [subWithBorrow, addWithCarry_c_iff, BitVec.toNat_not]
  omega

/-- V is set exactly when the signed difference is not the signed result (R122). -/
theorem subWithBorrow_v_iff (hn : 0 < n) : (subWithBorrow a b cin).v = true ↔
    (subWithBorrow a b cin).res.toInt ≠ a.toInt - b.toInt - (if cin then 0 else 1) := by
  have hsum : a.toInt + (-b.toInt - 1) + (if cin then 1 else 0) = a.toInt - b.toInt - (if cin then 0 else 1) := by
    split <;> omega
  rw [subWithBorrow, addWithCarry_v_iff _ _ _ hn, toInt_not_eq b hn, hsum]

end

/-- Settles O56: the sum, its carry and its signed overflow, which hold at every positive width. -/
theorem addMeaning : Obligations.AddMeaning := by
  intro n hn a b cin
  exact ⟨addWithCarry_res_toNat a b cin, addWithCarry_c_iff a b cin, addWithCarry_v_iff a b cin (by omega)⟩

/-- Settles O57: the sum with the complement is the difference, and its carry and overflow are read off the sum's. -/
theorem subtractMeaning : Obligations.SubtractMeaning := by
  intro n hn a b cin
  exact ⟨subWithBorrow_res a b cin, subWithBorrow_c_iff a b cin, subWithBorrow_v_iff a b cin (by omega)⟩

/-! ## Shifts -/

/-- The result with the carry below it determines both. -/
theorem ShiftOut.eq_of_concat_eq {n : Nat} {s t : ShiftOut n} (h : s.res.concat s.c = t.res.concat t.c) : s = t := by
  have hbit (i : Nat) := congrArg (BitVec.getLsbD · i) h
  have hc : s.c = t.c := by simpa using hbit 0
  have hres : s.res = t.res := BitVec.eq_of_getLsbD_eq fun i _ => by simpa using hbit (i + 1)
  cases s; cases t; congr

/-- The result with the carry above it determines both. -/
theorem ShiftOut.eq_of_cons_eq {n : Nat} {s t : ShiftOut n} (h : s.res.cons s.c = t.res.cons t.c) : s = t := by
  have hc : s.c = t.c := by simpa using congrArg BitVec.msb h
  have hres : s.res = t.res := by simpa using congrArg (BitVec.setWidth n) h
  cases s; cases t; congr

section
variable {n : Nat} (hn : 0 < n) (v : BitVec n) (cin : Bool)
include hn

/-- Before the rotation the carry is the bit below the operand, after it the bit above the result (R128). -/
theorem cons_rol : (rol v cin).res.cons (rol v cin).c = v.concat cin := by
  refine BitVec.eq_of_getLsbD_eq fun i hi => ?_
  rw [BitVec.getLsbD_cons, BitVec.getLsbD_concat]
  cases i with
  | zero => simp [rol, hn, Nat.ne_of_lt hn]
  | succ i =>
    by_cases h : i + 1 = n
    · simp [rol, BitVec.msb_eq_getLsbD_last, ← h]
    · have : i + 1 < n := by omega
      simp [rol, h, this, BitVec.getLsbD_eq_getElem, Nat.lt_of_succ_lt this]

/-- Before the rotation the carry is the bit above the operand, after it the bit below the result (R129). -/
theorem concat_ror : (ror v cin).res.concat (ror v cin).c = v.cons cin := by
  refine BitVec.eq_of_getLsbD_eq fun i hi => ?_
  rw [BitVec.getLsbD_cons, BitVec.getLsbD_concat]
  cases i with
  | zero => simp [ror, Nat.ne_of_lt hn]
  | succ i =>
    by_cases h : i + 1 = n
    · subst h
      simp [ror, Nat.add_comm 1 i]
    · have : i < n - 1 := by omega
      simp [ror, h, this, Nat.add_comm 1 i]

/-- R128 in numbers. -/
theorem rol_toNat : (rol v cin).res.toNat + (rol v cin).c.toNat * 2 ^ n = 2 * v.toNat + cin.toNat := by
  have h := congrArg BitVec.toNat (cons_rol hn v cin)
  rw [BitVec.toNat_cons', BitVec.toNat_concat, Nat.shiftLeft_eq] at h
  omega

/-- R129 in numbers. -/
theorem ror_toNat : 2 * (ror v cin).res.toNat + (ror v cin).c.toNat = v.toNat + cin.toNat * 2 ^ n := by
  have h := congrArg BitVec.toNat (concat_ror hn v cin)
  rw [BitVec.toNat_cons', BitVec.toNat_concat, Nat.shiftLeft_eq] at h
  omega

/-- ROR undoes ROL: together they turn the n + 1 bits once there and once back. -/
theorem ror_rol : ror (rol v cin).res (rol v cin).c = { res := v, c := cin } :=
  ShiftOut.eq_of_concat_eq ((concat_ror hn _ _).trans (cons_rol hn v cin))

/-- ROL undoes ROR. -/
theorem rol_ror : rol (ror v cin).res (ror v cin).c = { res := v, c := cin } :=
  ShiftOut.eq_of_cons_eq ((cons_rol hn _ _).trans (concat_ror hn v cin))

end

/-- The shift left is the rotation with no carry coming in. -/
theorem shl_eq_rol {n : Nat} (v : BitVec n) : shl v = rol v false := by
  simp [shl, rol]

/-- The shift right is the rotation with no carry coming in. -/
theorem shr_eq_ror {n : Nat} (v : BitVec n) : shr v = ror v false := by
  simp [shr, ror]

/-- Settles O58: a rotation turns operand and carry as n + 1 bits, so its number is read off and the other one turns
back; the shifts are rotations of a clear carry. -/
theorem shiftMeaning : Obligations.ShiftMeaning := by
  intro n hn v cin
  have hpos : 0 < n := by omega
  refine ⟨?_, ?_, rol_toNat hpos v cin, ror_toNat hpos v cin, ror_rol hpos v cin, rol_ror hpos v cin⟩
  · simpa [shl_eq_rol] using rol_toNat hpos v false
  · simpa [shr_eq_ror] using ror_toNat hpos v false

end Sys2Proof.Machine
end

section
/-! The effective address of each mode in numbers (41_addressing.md R150, R153, R160 to R174). -/

namespace Sys2Proof.Machine

/-- In bank 0 both addresses are their offsets, the second wrapping at 64K (R153). -/
theorem EA.inBank_zero_toNat (o : Word) :
    ((EA.inBank 0x00#8 o).lo.toNat, (EA.inBank 0x00#8 o).hi.toNat) = (o.toNat, (o + 1#16).toNat) := by
  simp [EA.inBank, toNat_addr]

/-- In any bank the high byte's address stays in the bank (R153). -/
theorem EA.inBank_toNat (b : Byte) (o : Word) :
    ((EA.inBank b o).lo.toNat, (EA.inBank b o).hi.toNat) =
      (b.toNat * 65536 + o.toNat, b.toNat * 65536 + (o + 1#16).toNat) := by
  simp only [EA.inBank, toNat_addr]

/-- The high byte of a 24-bit address lies at the next number, modulo 2^24 (R153). -/
theorem EA.linear_toNat {a : Addr} {n : Nat} (h : a.toNat = n % 16777216) :
    ((EA.linear a).lo.toNat, (EA.linear a).hi.toNat) = (n % 16777216, (n + 1) % 16777216) := by
  simp [EA.linear, BitVec.toNat_add, h]

/-- The long modes without an index (R166, R171). -/
theorem eaLong_toNat (b : Byte) (o : Word) : ((eaLong b o).lo.toNat, (eaLong b o).hi.toNat) =
    ((b.toNat * 65536 + o.toNat) % 16777216, (b.toNat * 65536 + o.toNat + 1) % 16777216) :=
  EA.linear_toNat (by rw [← toNat_addr, Nat.mod_eq_of_lt (addr b o).isLt])

/-- The index of a long mode is added to all 24 bits, so it carries into the bank (R167, R172). -/
theorem toNat_addr_add_index (b : Byte) (o i : Word) :
    (addr b o + i.setWidth 24).toNat = (b.toNat * 65536 + o.toNat + i.toNat) % 16777216 := by
  rw [BitVec.toNat_add, toNat_addr, BitVec.toNat_setWidth_of_le (by decide)]

/-- Settles O60: the address of each mode is an offset in bank 0 or DB, or a 24-bit address with or without an index. -/
theorem effectiveAddresses : Obligations.EffectiveAddresses := by
  intro s code
  exact ⟨
    EA.inBank_zero_toNat _, EA.inBank_zero_toNat _, EA.inBank_zero_toNat _,
    EA.inBank_toNat _ _, EA.inBank_toNat _ _, EA.inBank_toNat _ _,
    eaLong_toNat _ _, EA.linear_toNat (toNat_addr_add_index _ _ _),
    EA.inBank_toNat _ _, EA.inBank_toNat _ _, EA.inBank_toNat _ _,
    eaLong_toNat _ _, EA.linear_toNat (toNat_addr_add_index _ _ _),
    EA.inBank_zero_toNat _, EA.inBank_toNat _ _⟩

end Sys2Proof.Machine
end

section
/-! What the memory forms leave in memory (41_addressing.md R153, R158): a program of the read class has no Write, and
the stores and the read-modify-write instructions write at EA and, at 16 bits, at EAhi. -/

namespace Sys2Proof.Machine

/-! ## Programs without a Write -/

/-- No row of the program is a Write. -/
def Prog.ReadOnly : Prog → Prop
  | .read _ _ _ k => ∀ b, (k b).ReadOnly
  | .readLast _ _ _ _ => True
  | .write _ _ _ _ | .writeLast _ _ _ => False
  | .idle _ k => k.ReadOnly
  | .idleLast _ => True

/-- A run without a Write leaves memory, also where its write-back faults. -/
theorem Prog.run_mem_of_readOnly {p : Prog} (h : p.ReadOnly) (code : List Byte) (s : State) :
    (p.run code s).mem = s.mem := by
  induction p generalizing code s with
  | read src a r k ih => rw [Prog.run_read, ih _ (h _)]; simp
  | readLast src a r wb =>
    rw [Prog.run_readLast]
    cases wb with
    | none => rfl
    | some f => rw [State.settle_some]; split <;> rfl
  | write => exact h.elim
  | writeLast => exact h.elim
  | idle r k ih => rw [Prog.run_idle, ih h]; rfl
  | idleLast r => rfl

theorem idleIf_readOnly {c : Bool} {r : Regs} {k : Prog} (h : k.ReadOnly) : (idleIf c r k).ReadOnly := by
  unfold idleIf; split <;> exact h

theorem fetchDirect_readOnly {r : Regs} {k : Byte → Regs → Prog} (h : ∀ b q, (k b q).ReadOnly) :
    (fetchDirect r k).ReadOnly := fun _ => idleIf_readOnly (h _ _)

theorem readPtr_readOnly {p : Word} {r : Regs} {k : Word → Prog} (h : ∀ w, (k w).ReadOnly) :
    (readPtr p r k).ReadOnly := fun _ _ => h _

/-- The address cycles of a mode have no Write. -/
theorem resolve_readOnly {m : Mode} {c : AccessClass} {r : Regs} {k : EA → Regs → Prog}
    (h : ∀ ea q, (k ea q).ReadOnly) : (resolve m c r k).ReadOnly := by
  cases m with
  | dp | dpX | dpY => exact fetchDirect_readOnly fun _ _ => h _ _
  | dpInd | dpXInd => exact fetchDirect_readOnly fun _ _ => readPtr_readOnly fun _ => h _ _
  | dpIndY => exact fetchDirect_readOnly fun _ _ => readPtr_readOnly fun _ => idleIf_readOnly (h _ _)
  | dpLong | dpLongY => exact fetchDirect_readOnly fun _ _ => readPtr_readOnly fun _ _ => h _ _
  | abs => exact fun _ _ => h _ _
  | absX | absY => exact fun _ _ => idleIf_readOnly (h _ _)
  | long | longX => exact fun _ _ _ => h _ _
  | sr => exact fun _ => h _ _
  | srIndY => exact fun _ _ _ => h _ _

theorem readPhase_readOnly {w8 : Bool} {ea : EA} {r : Regs} {op : ReadOp} : (readPhase w8 ea r op).ReadOnly := by
  cases w8
  · exact fun _ => trivial
  · trivial

theorem readM_readOnly {m : Mode} {r : Regs} {op : ReadOp} : (readM m r op).ReadOnly :=
  resolve_readOnly fun _ _ => readPhase_readOnly

theorem readX_readOnly {m : Mode} {r : Regs} {op : ReadOp} : (readX m r op).ReadOnly :=
  resolve_readOnly fun _ _ => readPhase_readOnly

/-- A Write to another bus address leaves the byte. -/
theorem Memory.get_set_of_ne {a b : Addr} (h : a ≠ b) (m : Memory) (v : Byte) :
    (m.set b.toNat v).get a.toNat = m.get a.toNat :=
  Memory.get_set_other m v fun e => h (BitVec.eq_of_toNat_eq e)

end Sys2Proof.Machine

namespace Sys2Proof.Claims

open Sys2Proof.Machine

/-! ## The programs of the memory forms -/

/-- The form runs the program under its opcode, with as many operand bytes as its mode has. -/
structure Form.RunsAs (f : Form) (p : Regs → Prog) : Prop where
  exec_eq : ∀ s, exec f.i s = runInstr f.op p f.code s
  length : f.code.length = f.m.operands

/-- The forms of a list run the programs `p` where the lists of their meanings and of their lengths are these. -/
theorem runsAs_of_map {fs : List Form} {p : Form → Regs → Prog}
    (h : fs.map (fun f => (exec f.i, f.code.length)) =
      fs.map fun f => (runInstr f.op (p f) f.code, f.m.operands)) : ∀ f ∈ fs, f.RunsAs (p f) := by
  intro f hf
  have e := List.map_inj_left.1 h f hf
  exact ⟨congrFun (congrArg Prod.fst e), congrArg Prod.snd e⟩

section
variable {f : Form} {p : Regs → Prog} {s t : State}

/-- What a form does to memory: what the run of its program does, or nothing where its opcode is rejected. -/
theorem Form.RunsAs.mem_cases (hf : f.RunsAs p) (h : exec f.i s = .next t) :
    t.mem = ((p s.regs.incPc).run f.code (s.fetchOpcode f.op)).mem ∨ t.mem = s.mem := by
  rw [hf.exec_eq] at h
  cases hd : s.dispatches f.op with
  | true =>
    rw [runInstr_of_dispatches hd] at h
    obtain rfl := Host.Outcome.next.inj h
    exact .inl rfl
  | false =>
    rw [runInstr_of_not_dispatches hd] at h
    obtain rfl := Host.Outcome.next.inj h
    exact .inr rfl

/-- A form whose program has no Write leaves memory. -/
theorem Form.RunsAs.mem_of_readOnly (hf : f.RunsAs p) (hp : ∀ r, (p r).ReadOnly) (h : exec f.i s = .next t) :
    t.mem = s.mem :=
  (hf.mem_cases h).elim (fun e => e.trans (Prog.run_mem_of_readOnly (hp _) _ _)) id

/-- Every byte but the one at the form's EA and, where `w8` says 16 bits, the one at EAhi reads as before. -/
def Form.LeavesOutside (f : Form) (w8 : Bool) (s t : State) : Prop :=
  ∀ a : Addr, a ≠ (f.ea s).lo → (w8 = false → a ≠ (f.ea s).hi) → t.readMem a = s.readMem a

/-- A store at the width `w8` writes at EA and EAhi only (R158). -/
theorem Form.RunsAs.store_leavesOutside {w8 : Regs → Bool} {v : Regs → Word}
    (hf : f.RunsAs fun r => resolve f.m .write r fun ea r => writePhase (w8 r) ea (v r) r)
    (hw : ∀ (r : Regs) p, w8 { r with pc := p } = w8 r) (hv : ∀ (r : Regs) p, v { r with pc := p } = v r)
    (h : exec f.i s = .next t) : f.LeavesOutside (w8 s.regs) s t := by
  intro a hlo hhi
  obtain e | e := hf.mem_cases h
  · rw [State.readMem, e, (store_yields (b := s) (t := s.fetchOpcode f.op) rfl rfl hf.length hw hv).mem]
    cases hb : w8 s.regs with
    | true => exact Memory.get_set_of_ne hlo _ _
    | false => exact (Memory.get_set_of_ne (hhi hb) _ _).trans (Memory.get_set_of_ne hlo _ _)
  · exact State.readMem_of_mem e a

/-- A read-modify-write instruction writes at EA and EAhi only (R158). -/
theorem Form.RunsAs.rmw_leavesOutside {g : RmwOp} (hf : f.RunsAs fun r => rmwM f.m r g) (h : exec f.i s = .next t) :
    f.LeavesOutside s.regs.fM s t := by
  intro a hlo hhi
  obtain e | e := hf.mem_cases h
  · rw [State.readMem, e]
    cases hb : s.regs.fM with
    | true =>
      rw [(rmwM_yields8 (b := s) (t := s.fetchOpcode f.op) rfl rfl hf.length hb rfl).mem]
      exact Memory.get_set_of_ne hlo _ _
    | false =>
      rw [(rmwM_yields16 (b := s) (t := s.fetchOpcode f.op) rfl rfl hf.length hb rfl).mem]
      exact (Memory.get_set_of_ne hlo _ _).trans (Memory.get_set_of_ne (hhi hb) _ _)
  · exact State.readMem_of_mem e a

end

/-! ## The families -/

section
variable {fs : List Form} {s t : State}

theorem rmwM_forms_leaveOutside (g : RmwOp) (hfs : ∀ f ∈ fs, f.RunsAs fun r => rmwM f.m r g) :
    ∀ f ∈ fs, exec f.i s = .next t → f.LeavesOutside s.regs.fM s t := fun f hf => (hfs f hf).rmw_leavesOutside

theorem storeM_forms_leaveOutside (v : Regs → Word) (hv : ∀ (r : Regs) p, v { r with pc := p } = v r)
    (hfs : ∀ f ∈ fs, f.RunsAs fun r => storeM f.m r v) :
    ∀ f ∈ fs, exec f.i s = .next t → f.LeavesOutside s.regs.fM s t :=
  fun f hf => (hfs f hf).store_leavesOutside (w8 := Regs.fM) (fun _ _ => rfl) hv

theorem storeX_forms_leaveOutside (v : Regs → Word) (hv : ∀ (r : Regs) p, v { r with pc := p } = v r)
    (hfs : ∀ f ∈ fs, f.RunsAs fun r => storeX f.m r v) :
    ∀ f ∈ fs, exec f.i s = .next t → f.LeavesOutside s.regs.fX s t :=
  fun f hf => (hfs f hf).store_leavesOutside (w8 := Regs.fX) (fun _ _ => rfl) hv

/-- The operation may depend on the opcode and the registers at the boundary, which a fault reports (R452). -/
theorem readM_forms_leave_mem (op : Byte → Regs → ReadOp)
    (hfs : ∀ f ∈ fs, f.RunsAs fun r => readM f.m r (op f.op r)) :
    ∀ f ∈ fs, exec f.i s = .next t → ∀ a : Addr, t.readMem a = s.readMem a :=
  fun f hf h => State.readMem_of_mem ((hfs f hf).mem_of_readOnly (fun _ => readM_readOnly) h)

theorem readX_forms_leave_mem (op : ReadOp) (hfs : ∀ f ∈ fs, f.RunsAs fun r => readX f.m r op) :
    ∀ f ∈ fs, exec f.i s = .next t → ∀ a : Addr, t.readMem a = s.readMem a :=
  fun f hf h => State.readMem_of_mem ((hfs f hf).mem_of_readOnly (fun _ => readX_readOnly) h)

end

/-- Settles O30: each family's forms run as their mode with the data phase of their class. A data phase writes at EA and
EAhi only, and that of the read class not at all. -/
theorem memoryFrame : Obligations.MemoryFrame := by
  intro s t b w l
  simp only [List.forall_mem_append, and_assoc]
  exact ⟨
    storeM_forms_leaveOutside Regs.a (fun _ _ => rfl) (runsAs_of_map rfl),
    storeM_forms_leaveOutside (fun _ => 0x0000#16) (fun _ _ => rfl) (runsAs_of_map rfl),
    rmwM_forms_leaveOutside aslOp (runsAs_of_map rfl),
    rmwM_forms_leaveOutside lsrOp (runsAs_of_map rfl),
    rmwM_forms_leaveOutside rolOp (runsAs_of_map rfl),
    rmwM_forms_leaveOutside rorOp (runsAs_of_map rfl),
    rmwM_forms_leaveOutside incOp (runsAs_of_map rfl),
    rmwM_forms_leaveOutside decOp (runsAs_of_map rfl),
    rmwM_forms_leaveOutside tsbOp (runsAs_of_map rfl),
    rmwM_forms_leaveOutside trbOp (runsAs_of_map rfl),
    storeX_forms_leaveOutside Regs.x (fun _ _ => rfl) (runsAs_of_map rfl),
    storeX_forms_leaveOutside Regs.y (fun _ _ => rfl) (runsAs_of_map rfl),
    readM_forms_leave_mem (fun _ _ => ldaOp) (runsAs_of_map rfl),
    readX_forms_leave_mem ldxOp (runsAs_of_map rfl),
    readX_forms_leave_mem ldyOp (runsAs_of_map rfl),
    readM_forms_leave_mem adcOp (runsAs_of_map rfl),
    readM_forms_leave_mem sbcOp (runsAs_of_map rfl),
    readM_forms_leave_mem (fun _ _ => cmpOp) (runsAs_of_map rfl),
    readX_forms_leave_mem cpxOp (runsAs_of_map rfl),
    readX_forms_leave_mem cpyOp (runsAs_of_map rfl),
    readM_forms_leave_mem (fun _ _ => andOp) (runsAs_of_map rfl),
    readM_forms_leave_mem (fun _ _ => oraOp) (runsAs_of_map rfl),
    readM_forms_leave_mem (fun _ _ => eorOp) (runsAs_of_map rfl),
    readM_forms_leave_mem (fun _ _ => bitOp) (runsAs_of_map rfl)⟩

end Sys2Proof.Claims
end

section
/-! The steps of `advance()` call by call, what `registers()` shows of a pending write-back, and a step from a boundary
(42_dispatch.md R200 to R212, R215; 60_exceptions.md R451, R452, R457). -/

namespace Sys2Proof.Machine

/-! ## What each step of the engine answers -/

section
variable {s c : State}

/-- With nothing pending a boundary is its own committed state (R210). -/
theorem State.commit_of_wb_none (h : s.wb = none) : s.commit = .ok s := by
  simp [State.commit, h]

/-- A commit writes registers and leaves nothing pending; it touches nothing else (R210). -/
theorem State.eq_of_commit (h : s.commit = .ok c) : c = { s with regs := c.regs, wb := none } := by
  unfold State.commit at h
  split at h
  · rename_i hwb
    cases h
    rw [← hwb]
  · split at h
    · cases h; rfl
    · split at h <;> cases h
      rfl

/-- The opcode fetch of a boundary that has a committed state (R202). -/
theorem State.fetchStep_of_commit_ok (h : s.commit = .ok c) : s.fetchStep = (.read, c.startFetch) := by
  simp only [State.fetchStep, h]

/-- The fault in the place of the opcode fetch (R452). -/
theorem State.fetchStep_of_commit_error {f : Fault} (h : s.commit = .error f) :
    s.fetchStep = (.fault f, s.raise f) := by
  simp only [State.fetchStep, h]

/-- Every dispatched opcode has a program. -/
theorem State.exists_progOf_of_dispatches {op : Byte} (h : s.dispatches op = true) : ∃ p, progOf op = some p :=
  Option.isSome_iff_exists.1 ((progOf_isSome_iff op).2 ((s.dispatches_iff op).1 h).2)

/-- The decode step of a dispatched opcode performs the first row of its program (R203). -/
theorem State.decodeStep_of_dispatches {p : Regs → Prog} (h : s.dispatches s.dbus = true)
    (hp : progOf s.dbus = some p) : s.decodeStep = (s.latchOpcode s.dbus).perform (p s.regs) := by
  have h' : (s.latchOpcode s.dbus).dispatches s.dbus = true := h
  simp [State.decodeStep, h', hp]

/-- The decode step of any other opcode faults (R203, R451). -/
theorem State.decodeStep_of_not_dispatches (h : s.dispatches s.dbus = false) :
    s.decodeStep = (.fault (.unimplementedOpcode s.dbus s.regs.pb s.lat.pc0),
      (s.latchOpcode s.dbus).raise (.unimplementedOpcode s.dbus s.regs.pb s.lat.pc0)) := by
  have h' : (s.latchOpcode s.dbus).dispatches s.dbus = false := h
  simp [State.decodeStep, h', State.decodeFault]

end

/-! ## The opcode fetch, the decode step and the halted block -/

/-- Settles O39: the fetch from the committed state, of which only registers and write-back differ from the boundary, or
the fault. -/
theorem opcodeFetch : Obligations.OpcodeFetch := by
  intro s hl hc
  rw [State.advance_fetch hl hc]
  refine ⟨fun c h => ?_, fun f h => ?_⟩
  · have hwb : c.wb = none := congrArg State.wb (State.eq_of_commit h)
    have hmem : c.mem = s.mem := by rw [State.eq_of_commit h]
    rw [State.fetchStep_of_commit_ok h]
    exact ⟨rfl, rfl, rfl, rfl, rfl, rfl, hwb, hmem⟩
  · rw [State.fetchStep_of_commit_error h]
    exact ⟨rfl, rfl⟩

/-- Settles O40: the decode step latches the opcode, which none of the fields in question shows, and halts. -/
theorem decodeFault : Obligations.DecodeFault := by
  intro s hl hc hd
  rw [State.advance_decode hl hc, State.decodeStep_of_not_dispatches hd]
  exact ⟨rfl, rfl, rfl, rfl, rfl, rfl, rfl⟩

theorem State.ticks_halted {s : State} {f : Fault} (h : s.cont = .halted f) (n : Nat) : s.ticks n = s := by
  cases hl : s.launched with
  | false => exact State.ticks_refused hl n
  | true =>
    induction n with
    | zero => rfl
    | succ n ih => rw [State.ticks, State.tick, State.advance_halted hl h, State.serve, ih]

/-- Settles O41: `advance()` and `step` answer the fault, and the host does nothing after one. -/
theorem haltedStays : Obligations.HaltedStays := fun _ _ n hc =>
  ⟨fun hl => ⟨State.advance_halted hl hc, by simp [step, hl, hc]⟩, State.ticks_halted hc n, fun _ _ _ => rfl⟩

/-! ## One bus cycle a call (R215) -/

/-- The answer of a call that performs one bus cycle: it is counted, recorded at the end of the trace and shown on the
bus, and the memory is the host's to change. -/
def State.OneCycle (s : State) (o : CycleOutcome × State) : Prop :=
  o.2.moment = s.moment + 1 ∧ o.2.mem = s.mem ∧ ∃ before,
    (o.1 = .read ∧ o.2.last = .read ∧ o.2.trace = before ++ [.read o.2.abus]) ∨
    (o.1 = .write ∧ o.2.last = .write ∧ o.2.trace = before ++ [.write o.2.abus o.2.dbus]) ∨
    (o.1 = .internal ∧ o.2.last = .internal ∧ o.2.trace = before ++ [.internal] ∧
      o.2.abus = Config.idleAddr s.moment)

/-- The answer of a call that faults: it halts with no bus cycle. -/
def State.FaultsIdle (s : State) (o : CycleOutcome × State) : Prop :=
  ∃ f, o.1 = .fault f ∧ o.2.cont = .halted f ∧ o.2.moment = s.moment ∧ o.2.abus = s.abus ∧ o.2.mem = s.mem

section
variable {s u : State}

/-- A row is one bus cycle, from any state with the count and the memory of `s`. -/
theorem State.perform_oneCycle (hmoment : u.moment = s.moment) (hmem : u.mem = s.mem) (q : Prog) :
    s.OneCycle (u.perform q) := by
  rw [State.OneCycle, ← hmoment, ← hmem]
  cases q with
  | read | readLast => exact ⟨rfl, rfl, u.trace, .inl ⟨rfl, rfl, rfl⟩⟩
  | write | writeLast => exact ⟨rfl, rfl, u.trace, .inr (.inl ⟨rfl, rfl, rfl⟩)⟩
  | idle | idleLast => exact ⟨rfl, rfl, u.trace, .inr (.inr ⟨rfl, rfl, rfl, rfl⟩)⟩

theorem State.fetchStep_cycles (s : State) : s.FaultsIdle s.fetchStep ∨ s.OneCycle s.fetchStep := by
  cases h : s.commit with
  | error f =>
    rw [State.fetchStep_of_commit_error h]
    exact .inl ⟨f, rfl, rfl, rfl, rfl, rfl⟩
  | ok c =>
    rw [State.fetchStep_of_commit_ok h, State.eq_of_commit h]
    exact .inr ⟨rfl, rfl, [], .inl ⟨rfl, rfl, rfl⟩⟩

theorem State.decodeStep_cycles (s : State) : s.FaultsIdle s.decodeStep ∨ s.OneCycle s.decodeStep := by
  cases h : s.dispatches s.dbus with
  | false =>
    rw [State.decodeStep_of_not_dispatches h]
    exact .inl ⟨_, rfl, rfl, rfl, rfl, rfl⟩
  | true =>
    obtain ⟨p, hp⟩ := State.exists_progOf_of_dispatches h
    rw [State.decodeStep_of_dispatches h hp]
    exact .inr (State.perform_oneCycle rfl rfl _)

theorem State.instrStep_cycles (s : State) (op : Byte) (k : Nat) :
    s.FaultsIdle (s.instrStep op k) ∨ s.OneCycle (s.instrStep op k) := by
  unfold State.instrStep
  split
  · exact .inr (State.perform_oneCycle s.consume_moment s.consume_mem _)
  · exact s.fetchStep_cycles

end

/-- Settles O42: a block that was never reset refuses, a halted one repeats its fault, and each of the three steps
faults with no cycle or performs one. -/
theorem oneCyclePerCall : Obligations.OneCyclePerCall := by
  intro s
  cases hl : s.launched with
  | false => exact .inl ⟨rfl, State.advance_refused hl⟩
  | true =>
    refine .inr ?_
    show s.FaultsIdle s.advance ∨ s.OneCycle s.advance
    cases hc : s.cont with
    | halted f => rw [State.advance_halted hl hc]; exact .inl ⟨f, rfl, hc, rfl, rfl, rfl⟩
    | fetch => rw [State.advance_fetch hl hc]; exact s.fetchStep_cycles
    | decode => rw [State.advance_decode hl hc]; exact s.decodeStep_cycles
    | step op k => rw [State.advance_step hl hc]; exact s.instrStep_cycles op k

/-! ## What `registers()` shows of a pending write-back (R205, R211) -/

/-- The register file after every row has the property; that after the deferred write-back need not. -/
def Prog.AllRows (P : Regs → Prop) : Prog → Prop
  | .read _ _ r k => P r ∧ ∀ b, (k b).AllRows P
  | .readLast _ _ r _ => P r
  | .write _ _ r k => P r ∧ k.AllRows P
  | .writeLast _ _ r => P r
  | .idle r k => P r ∧ k.AllRows P
  | .idleLast r => P r

theorem Prog.forall_mem_rowRegs {P : Regs → Prop} {p : Prog} (h : p.AllRows P) (host : Addr → Byte) (bs : List Byte) :
    ∀ r ∈ p.rowRegs host bs, P r := by
  induction p generalizing bs with
  | read src a r k ih => cases bs <;> exact List.forall_mem_cons.2 ⟨h.1, ih _ (h.2 _) _⟩
  | write a v r k ih => exact List.forall_mem_cons.2 ⟨h.1, ih h.2 _⟩
  | idle r k ih => exact List.forall_mem_cons.2 ⟨h.1, ih h.2 _⟩
  | readLast | writeLast | idleLast => exact List.forall_mem_singleton.2 h

/-- Where no row of the instruction writes PB, the snapshot shows the old one. -/
theorem State.midRegs_pb {s : State} {op : Byte} {p : Regs → Prog} (hp : progOf op = some p)
    (h : (p s.lat.base).AllRows (·.pb = s.lat.base.pb)) : (s.midRegs op).pb = s.lat.base.pb := by
  refine State.midRow_old (·.pb) ?_ 6
  rw [State.rowRegs, hp]
  exact List.forall_mem_cons.2 ⟨rfl, Prog.forall_mem_rowRegs h _ _⟩

/-- Settles O43: the opcode fetch commits, and before it neither PC nor, in the rows of JML and RTL, PB is new. -/
theorem writeBackLatency : Obligations.WriteBackLatency := by
  intro s
  refine ⟨fun c hl hc h => ⟨?_, ?_, fun hwb => ?_⟩, fun op k hc => ?_⟩
  · simp only [State.registers, hc]
  · rw [State.advance_fetch hl hc, State.fetchStep_of_commit_ok h]
    rfl
  · rw [State.commit_of_wb_none hwb] at h
    exact (Except.ok.inj h).symm
  · rw [State.registers_step hc]
    refine ⟨fun hop => State.midRegs_pc (List.contains_iff_mem.2 hop), fun hop => ?_⟩
    simp only [List.mem_cons, List.not_mem_nil, or_false] at hop
    obtain rfl | rfl | rfl := hop
    · exact State.midRegs_pb (p := progJmlLong) rfl ⟨rfl, fun _ => ⟨rfl, fun _ => rfl⟩⟩
    · exact State.midRegs_pb (p := progJmlIndLong) rfl
        ⟨rfl, fun _ => ⟨rfl, fun _ => ⟨rfl, fun _ => ⟨rfl, fun _ => rfl⟩⟩⟩⟩
    · exact State.midRegs_pb (p := progRtl) rfl ⟨rfl, rfl, rfl, fun _ => ⟨rfl, fun _ => rfl⟩⟩

/-! ## A step from a boundary (R202, R212) -/

/-- Settles O35: at a committed boundary the bytes decode to the instruction that runs; a commit leaves a boundary, with
nothing more to commit. -/
theorem stepRunsDecoded : Obligations.StepRunsDecoded := by
  intro s
  refine ⟨fun i rest hb hdec => ?_, fun c hl hc h => ?_, fun f hl hc h => ?_⟩
  · rw [hb.step, State.fetchInstr_of_decode hdec]
  · have hcommit := State.eq_of_commit h
    have hb : c.AtBoundary :=
      ⟨(congrArg State.launched hcommit).trans hl, (congrArg State.cont hcommit).trans hc, congrArg State.wb hcommit⟩
    rw [hb.step]
    simp [step, hl, hc, State.runBoundary, h]
  · simp [step, hl, hc, State.runBoundary, h]

end Sys2Proof.Machine
end

section
/-! Where the instruction stream is read (30_encoding.md R90; 10_state.md R27): every program reads it at consecutive
offsets of PB, so the bytes of an instruction that memory holds at PB:PC are what the host answers with (R503). -/

namespace Sys2Proof.Machine

/-! ## Programs that read the instruction stream in order -/

/-- The instruction-stream Reads of the program go to consecutive offsets of the bank, from this one on. -/
def Prog.StreamsFrom (bank : Byte) : Word → Prog → Prop
  | o, .read .stream a _ k => a = addr bank o ∧ ∀ b, (k b).StreamsFrom bank (o + 1#16)
  | o, .read .data _ _ k => ∀ b, (k b).StreamsFrom bank o
  | o, .readLast .stream a _ _ => a = addr bank o
  | _, .readLast .data _ _ _ => True
  | o, .write _ _ _ k => k.StreamsFrom bank o
  | _, .writeLast _ _ _ => True
  | o, .idle _ k => k.StreamsFrom bank o
  | _, .idleLast _ => True

section
variable {r : Regs} {bank : Byte} {o : Word}

theorem idleIf_streamsFrom {c : Bool} {k : Prog} (hk : k.StreamsFrom bank o) : (idleIf c r k).StreamsFrom bank o := by
  unfold idleIf; split <;> exact hk

theorem fetchByte_streamsFrom {k : Byte → Regs → Prog} (hk : ∀ b, (k b r.incPc).StreamsFrom r.incPc.pb r.incPc.pc) :
    (fetchByte r k).StreamsFrom r.pb r.pc := ⟨rfl, hk⟩

theorem fetchWord_streamsFrom {k : Word → Regs → Prog} (hk : ∀ w (q : Regs), (k w q).StreamsFrom q.pb q.pc) :
    (fetchWord r k).StreamsFrom r.pb r.pc := fetchByte_streamsFrom fun _ => fetchByte_streamsFrom fun _ => hk _ _

theorem fetchDirect_streamsFrom {k : Byte → Regs → Prog} (hk : ∀ b (q : Regs), (k b q).StreamsFrom q.pb q.pc) :
    (fetchDirect r k).StreamsFrom r.pb r.pc := fetchByte_streamsFrom fun _ => idleIf_streamsFrom (hk _ _)

theorem readPtr_streamsFrom {p : Word} {k : Word → Prog} (hk : ∀ w, (k w).StreamsFrom bank o) :
    (readPtr p r k).StreamsFrom bank o := fun _ _ => hk _

/-- The address cycles of a mode read the operand bytes, then anything that goes on from where PC stands. -/
theorem resolve_streamsFrom {m : Mode} {c : AccessClass} {k : EA → Regs → Prog}
    (hk : ∀ ea (q : Regs), (k ea q).StreamsFrom q.pb q.pc) : (resolve m c r k).StreamsFrom r.pb r.pc := by
  cases m with dsimp only [resolve]
  | dp | dpX | dpY => exact fetchDirect_streamsFrom fun _ _ => hk _ _
  | dpInd | dpXInd => exact fetchDirect_streamsFrom fun _ _ => readPtr_streamsFrom fun _ => hk _ _
  | dpIndY => exact fetchDirect_streamsFrom fun _ _ => readPtr_streamsFrom fun _ => idleIf_streamsFrom (hk _ _)
  | dpLong | dpLongY => exact fetchDirect_streamsFrom fun _ _ => readPtr_streamsFrom fun _ _ => hk _ _
  | abs => exact fetchWord_streamsFrom fun _ _ => hk _ _
  | absX | absY => exact fetchWord_streamsFrom fun _ _ => idleIf_streamsFrom (hk _ _)
  | long | longX => exact fetchWord_streamsFrom fun _ _ => fetchByte_streamsFrom fun _ => hk _ _
  | sr => exact fetchByte_streamsFrom fun _ => hk _ _
  | srIndY => exact fetchByte_streamsFrom fun _ _ _ => hk _ _

theorem readPhase_streamsFrom {w8 : Bool} {ea : EA} {op : ReadOp} : (readPhase w8 ea r op).StreamsFrom bank o := by
  cases w8
  · exact fun _ => trivial
  · trivial

theorem writePhase_streamsFrom {w8 : Bool} {ea : EA} {v : Word} : (writePhase w8 ea v r).StreamsFrom bank o := by
  cases w8 <;> trivial

theorem rmwPhase_streamsFrom {w8 : Bool} {ea : EA} {f : RmwOp} : (rmwPhase w8 ea r f).StreamsFrom bank o := by
  cases w8
  · exact fun _ _ => trivial
  · exact fun _ => trivial

theorem immPhase_streamsFrom {w8 : Bool} {op : ReadOp} : (immPhase w8 r op).StreamsFrom r.pb r.pc := by
  cases w8
  · exact ⟨rfl, fun _ => rfl⟩
  · rfl

theorem readM_streamsFrom {m : Mode} {op : ReadOp} : (readM m r op).StreamsFrom r.pb r.pc :=
  resolve_streamsFrom fun _ _ => readPhase_streamsFrom

theorem readX_streamsFrom {m : Mode} {op : ReadOp} : (readX m r op).StreamsFrom r.pb r.pc :=
  resolve_streamsFrom fun _ _ => readPhase_streamsFrom

theorem storeM_streamsFrom {m : Mode} {v : Regs → Word} : (storeM m r v).StreamsFrom r.pb r.pc :=
  resolve_streamsFrom fun _ _ => writePhase_streamsFrom

theorem storeX_streamsFrom {m : Mode} {v : Regs → Word} : (storeX m r v).StreamsFrom r.pb r.pc :=
  resolve_streamsFrom fun _ _ => writePhase_streamsFrom

theorem rmwM_streamsFrom {m : Mode} {f : RmwOp} : (rmwM m r f).StreamsFrom r.pb r.pc :=
  resolve_streamsFrom fun _ _ => rmwPhase_streamsFrom

theorem branch_streamsFrom {taken : Bool} : (branch taken r).StreamsFrom r.pb r.pc := by
  cases taken
  · rfl
  · refine ⟨rfl, fun b => ?_⟩
    dsimp only
    split <;> trivial

theorem pushReg_streamsFrom {w8 : Bool} {v : Word} : (pushReg w8 v r).StreamsFrom bank o := by
  cases w8 <;> trivial

theorem pullReg_streamsFrom {w8 : Bool} {op : (n : Nat) → BitVec n → Regs → Regs} :
    (pullReg w8 r op).StreamsFrom bank o := by
  cases w8
  · exact fun _ => trivial
  · trivial

end

/-- Every entry of the dispatch table reads its operand bytes in order from PB:PC on. -/
theorem progOf_opcode_streamsFrom (i : Instr) {p : Regs → Prog} (hp : progOf i.opcode = some p) (r : Regs) :
    (p r).StreamsFrom r.pb r.pc := by
  cases i with (dsimp only [Instr.opcode] at hp; cases hp)
  | adcDpXInd | adcSr | adcDp | adcDpLong | adcAbs | adcLong | adcDpIndY | adcDpInd | adcSrIndY | adcDpX | adcDpLongY
  | adcAbsY | adcAbsX | adcLongX
  | sbcDpXInd | sbcSr | sbcDp | sbcDpLong | sbcAbs | sbcLong | sbcDpIndY | sbcDpInd | sbcSrIndY | sbcDpX | sbcDpLongY
  | sbcAbsY | sbcAbsX | sbcLongX
  | cmpDpXInd | cmpSr | cmpDp | cmpDpLong | cmpAbs | cmpLong | cmpDpIndY | cmpDpInd | cmpSrIndY | cmpDpX | cmpDpLongY
  | cmpAbsY | cmpAbsX | cmpLongX
  | andDpXInd | andSr | andDp | andDpLong | andAbs | andLong | andDpIndY | andDpInd | andSrIndY | andDpX | andDpLongY
  | andAbsY | andAbsX | andLongX
  | oraDpXInd | oraSr | oraDp | oraDpLong | oraAbs | oraLong | oraDpIndY | oraDpInd | oraSrIndY | oraDpX | oraDpLongY
  | oraAbsY | oraAbsX | oraLongX
  | eorDpXInd | eorSr | eorDp | eorDpLong | eorAbs | eorLong | eorDpIndY | eorDpInd | eorSrIndY | eorDpX | eorDpLongY
  | eorAbsY | eorAbsX | eorLongX
  | ldaDpXInd | ldaSr | ldaDp | ldaDpLong | ldaAbs | ldaLong | ldaDpIndY | ldaDpInd | ldaSrIndY | ldaDpX | ldaDpLongY
  | ldaAbsY | ldaAbsX | ldaLongX
  | bitDp | bitAbs | bitDpX | bitAbsX => exact readM_streamsFrom
  | cpxDp | cpxAbs | cpyDp | cpyAbs
  | ldxDp | ldxAbs | ldxDpY | ldxAbsY | ldyDp | ldyAbs | ldyDpX | ldyAbsX => exact readX_streamsFrom
  | adcImm | sbcImm | cmpImm | andImm | oraImm | eorImm | ldaImm | bitImm | cpxImm | cpyImm | ldxImm | ldyImm =>
    exact immPhase_streamsFrom
  | staDpXInd | staSr | staDp | staDpLong | staAbs | staLong | staDpIndY | staDpInd | staSrIndY | staDpX | staDpLongY
  | staAbsY | staAbsX | staLongX | stzDp | stzDpX | stzAbs | stzAbsX => exact storeM_streamsFrom
  | stxDp | stxAbs | stxDpY | styDp | styAbs | styDpX => exact storeX_streamsFrom
  | aslDp | aslAbs | aslDpX | aslAbsX | lsrDp | lsrAbs | lsrDpX | lsrAbsX
  | rolDp | rolAbs | rolDpX | rolAbsX | rorDp | rorAbs | rorDpX | rorAbsX
  | incDp | incAbs | incDpX | incAbsX | decDp | decAbs | decDpX | decAbsX | tsbDp | tsbAbs | trbDp | trbAbs =>
    exact rmwM_streamsFrom
  | aslA | lsrA | rolA | rorA | incA | decA
  | tax | tyx | tsx | inx | dex | tay | txy | iny | dey | txa | tya | tsc | tdc | tcd | txs | tcs | xba
  | php | phb | phk | clc | sec | cld | sed | cli | sei | clv | xce | nop | plp | plb => trivial
  | pld => exact fun _ => trivial
  | rts | rtl => exact fun _ _ => trivial
  | pha | phx | phy | phd => exact pushReg_streamsFrom
  | pla | plx | ply => exact pullReg_streamsFrom
  | pei => exact ⟨rfl, fun _ => idleIf_streamsFrom fun _ _ => trivial⟩
  | rep | sep => exact ⟨rfl, fun _ => trivial⟩
  | pea | per | brl | jsrAbs => exact ⟨rfl, fun _ => ⟨rfl, fun _ => trivial⟩⟩
  | mvn | mvp | jmpInd | jmpXInd | jsrXInd => exact ⟨rfl, fun _ => ⟨rfl, fun _ _ => trivial⟩⟩
  | bpl | bmi | bvc | bvs | bcc | bcs | bne | beq | bra => exact branch_streamsFrom
  | jmpAbs => exact ⟨rfl, fun _ => rfl⟩
  | jmlLong => exact ⟨rfl, fun _ => ⟨rfl, fun _ => rfl⟩⟩
  | jmlIndLong => exact ⟨rfl, fun _ => ⟨rfl, fun _ _ _ => trivial⟩⟩
  | jsl => exact ⟨rfl, fun _ => ⟨rfl, fun _ => ⟨rfl, fun _ => trivial⟩⟩⟩

/-! ## The instruction's own bytes in memory -/

/-- Memory holds the bytes at consecutive offsets of the bank, wherever the instruction in progress has not written. -/
def State.HoldsCode (s : State) (bank : Byte) (o : Word) (code : List Byte) : Prop :=
  ∀ k (hk : k < code.length), s.trace.any (BusCycle.writesTo (addr bank (o + BitVec.ofNat 16 k))) = false →
    s.readMem (addr bank (o + BitVec.ofNat 16 k)) = code[k]

section
variable {s t : State} {bank : Byte} {o : Word} {code : List Byte}

/-- Held bytes stay held where the trace grows and what it has not written stays in memory. -/
theorem State.HoldsCode.mono (h : s.HoldsCode bank o code)
    (ht : ∀ a, t.trace.any (BusCycle.writesTo a) = false →
      s.trace.any (BusCycle.writesTo a) = false ∧ t.readMem a = s.readMem a) : t.HoldsCode bank o code := by
  intro k hk hw
  obtain ⟨hs, hmem⟩ := ht _ hw
  rw [hmem, h k hk hs]

theorem State.HoldsCode.of_read (h : s.HoldsCode bank o code) {a : Addr} (hmem : t.mem = s.mem)
    (htrace : t.trace = s.trace ++ [.read a]) : t.HoldsCode bank o code :=
  h.mono fun b hb => ⟨by simpa [htrace] using hb, State.readMem_of_mem hmem b⟩

theorem State.HoldsCode.of_write (h : s.HoldsCode bank o code) {a : Addr} {v : Byte}
    (hmem : t.mem = s.mem.set a.toNat v) (htrace : t.trace = s.trace ++ [.write a v]) : t.HoldsCode bank o code := by
  refine h.mono fun b hb => ?_
  simp only [htrace, List.any_append, List.any_cons, List.any_nil, Bool.or_false, BusCycle.writesTo_write,
    Bool.or_eq_false_iff, beq_eq_false_iff_ne] at hb
  obtain ⟨hs, hne⟩ := hb
  exact ⟨hs, by rw [State.readMem, hmem, Memory.get_set_of_ne hne, State.readMem]⟩

/-- The instruction-stream Read of the next held byte is answered as memory answers it (log entry 16). -/
theorem State.HoldsCode.answer (h : s.HoldsCode bank o code) :
    s.answer .stream (addr bank o) code = s.readMem (addr bank o) := by
  cases code with
  | nil => rfl
  | cons b code =>
    simp only [State.answer]
    split
    · rfl
    · rename_i hw
      have h0 := h 0 (Nat.zero_lt_succ _)
      rw [BitVec.add_zero] at h0
      exact (h0 (Bool.eq_false_iff.2 hw)).symm

theorem State.HoldsCode.tail (h : s.HoldsCode bank o code) : s.HoldsCode bank (o + 1#16) code.tail := by
  intro k hk
  rw [List.getElem_tail, ← add_ofNat_succ]
  exact h (k + 1) (by rw [List.length_tail] at hk; omega)

/-- Where memory holds the instruction's own bytes, the run asks memory for them (R77, R503). -/
theorem Prog.run_eq_run_nil {p : Prog} (hp : p.StreamsFrom bank o) (h : s.HoldsCode bank o code) :
    p.run code s = p.run [] s := by
  induction p generalizing o code s with
  | read src a r k ih =>
    cases src with
    | stream =>
      obtain ⟨rfl, hk⟩ := hp
      rw [Prog.run_read, Prog.run_read, h.answer]
      exact ih _ (hk _) (h.tail.of_read (a := addr bank o) (by simp) (by simp))
    | data =>
      rw [Prog.run_read, Prog.run_read, State.answer_data, State.answer_data]
      exact ih _ (hp _) (h.of_read (a := a) (by simp) (by simp))
  | readLast src a r wb =>
    cases src with
    | stream =>
      obtain rfl := hp
      rw [Prog.run_readLast, Prog.run_readLast, h.answer]
      rfl
    | data => rw [Prog.run_readLast, Prog.run_readLast, State.answer_data, State.answer_data]
  | write a v r k ih => exact ih hp (h.of_write rfl rfl)
  | idle r k ih => exact ih hp (h.mono fun b hb => ⟨by simpa using hb, rfl⟩)
  | writeLast | idleLast => rfl

end

theorem State.fetchInstr_opcode (s : State) : s.fetchInstr.opcode = s.codeByte 0 :=
  (decodeOp_spec _ _ _ _ _ _).2.1

/-- After the opcode fetch memory holds the operand bytes of the instruction at PB:PC (R90). -/
theorem State.fetchOpcode_holdsCode (s : State) (op : Byte) :
    (s.fetchOpcode op).HoldsCode s.regs.incPc.pb s.regs.incPc.pc s.fetchInstr.operandBytes := by
  have hbytes : s.fetchInstr.operandBytes = ((List.range 3).map fun k => s.codeByte (k + 1)).take
      ((formatOf (s.codeByte 0)).operands s.regs.fM s.regs.fX) := (decodeOp_spec _ _ _ _ _ _).2.2
  rw [hbytes]
  intro k hk _
  rw [List.getElem_take, List.getElem_map, List.getElem_range, State.codeByte, add_ofNat_succ]
  rfl

/-- From a committed boundary a dispatched instruction is the run of its program, the host answering every Read from
memory (R212). -/
theorem State.AtBoundary.step_of_dispatches {s : State} (hb : s.AtBoundary) {p : Regs → Prog}
    (hd : s.dispatches (s.codeByte 0) = true) (hp : progOf (s.codeByte 0) = some p) :
    Machine.step s = .next ((p s.regs.incPc).run [] (s.fetchOpcode (s.codeByte 0))) := by
  have hop := s.fetchInstr_opcode
  have hstream := progOf_opcode_streamsFrom s.fetchInstr (hop ▸ hp) s.regs.incPc
  rw [hb.step, exec_eq, hop, hp]
  simp only
  rw [runInstr_of_dispatches hd, Prog.run_eq_run_nil hstream (s.fetchOpcode_holdsCode _)]

/-- From a committed boundary an opcode that is not dispatched halts the block (R451). -/
theorem State.AtBoundary.step_of_not_dispatches {s : State} (hb : s.AtBoundary)
    (hd : s.dispatches (s.codeByte 0) = false) : Machine.step s = .next (s.rejectOpcode (s.codeByte 0)) := by
  rw [hb.step, exec_eq, s.fetchInstr_opcode]
  split
  · exact runInstr_of_not_dispatches hd _ _
  · rfl

end Sys2Proof.Machine
end

section
/-! A step is the calls of `advance()` that make it up (42_dispatch.md R204, R205, R210 to R213): the engine, which
finds the next row from its latches, performs the rows of a program one by one as the run of the program does. -/

namespace Sys2Proof.Machine

/-! ## The run whose Reads memory answers -/

theorem Prog.run_read_nil (src : Source) (a : Addr) (r : Regs) (k : Byte → Prog) (s : State) :
    (Prog.read src a r k).run [] s =
      (k (s.readMem a)).run [] ((s.cycRead a r).goOn.supply (s.readMem a)).consume := by
  cases src <;> rfl

theorem Prog.run_readLast_nil (src : Source) (a : Addr) (r : Regs) (wb : Option (Byte → Except Fault Regs))
    (s : State) : (Prog.readLast src a r wb).run [] s =
      (((s.cycRead a r).finish wb.isSome).supply (s.readMem a)).settle wb (s.readMem a) := by
  cases src <;> rfl

/-! ## The rows left of a program -/

/-- `q` is what is left of `p` after `n` rows that have read the bytes `bs`, whatever is read after them. -/
structure Prog.Leaves (p : Prog) (n : Nat) (bs : List Byte) (q : Prog) : Prop where
  after_eq : ∀ m bs', p.after (n + m) (bs ++ bs') = q.after m bs'
  deferred_eq : ∀ bs', p.deferred (bs ++ bs') = q.deferred bs'

theorem Prog.leaves_self (p : Prog) : p.Leaves 0 [] p :=
  ⟨fun m _ => by rw [Nat.zero_add, List.nil_append], fun _ => rfl⟩

section
variable {p q k : Prog} {n : Nat} {bs : List Byte} {r : Regs}

theorem Prog.Leaves.after (h : p.Leaves n bs q) : p.after n bs = some q := by
  simpa [Prog.after] using h.after_eq 0 []

theorem Prog.Leaves.deferred (h : p.Leaves n bs q) : p.deferred bs = q.deferred [] := by
  simpa using h.deferred_eq []

/-- A Read consumes its byte. -/
theorem Prog.Leaves.read {src : Source} {a : Addr} {k : Byte → Prog} (h : p.Leaves n bs (.read src a r k)) (b : Byte) :
    p.Leaves (n + 1) (bs ++ [b]) (k b) where
  after_eq m bs' := by rw [Nat.add_assoc, Nat.add_comm 1, List.append_assoc]; exact h.after_eq (m + 1) (b :: bs')
  deferred_eq bs' := by rw [List.append_assoc]; exact h.deferred_eq (b :: bs')

theorem Prog.Leaves.write {a : Addr} {v : Byte} (h : p.Leaves n bs (.write a v r k)) : p.Leaves (n + 1) bs k where
  after_eq m bs' := by rw [Nat.add_assoc, Nat.add_comm 1]; exact h.after_eq (m + 1) bs'
  deferred_eq := h.deferred_eq

theorem Prog.Leaves.idle (h : p.Leaves n bs (.idle r k)) : p.Leaves (n + 1) bs k where
  after_eq m bs' := by rw [Nat.add_assoc, Nat.add_comm 1]; exact h.after_eq (m + 1) bs'
  deferred_eq := h.deferred_eq

end

/-! ## The state that performs a row -/

/-- Row `n + 2` comes next, and the rows `q` are left by the latches, the byte of the previous row consumed (R204). -/
structure State.AtRow (u : State) (n : Nat) (q : Prog) : Prop where
  launched : u.launched = true
  next : u.goOn.cont = .step u.lat.op (n + 3)
  rest : ∃ p, progOf u.lat.op = some p ∧ (p u.lat.base).Leaves n u.lat.bytes q

/-- The state after the row's call and the host's answer to it. -/
def State.rowTick (u : State) (q : Prog) : State := (u.perform q).2.serve (u.perform q).1

section
variable {s u v : State} {n : Nat} {q k : Prog} {r : Regs} {a : Addr}

/-- The decode step performs the first row (R203). -/
theorem State.fetchOpcode_atRow {op : Byte} {p : Regs → Prog} (hl : s.launched = true) (hp : progOf op = some p) :
    (s.fetchOpcode op).AtRow 0 (p s.regs.incPc) := ⟨hl, rfl, p, hp, Prog.leaves_self _⟩

/-- After a row the next number is due (R204). -/
theorem State.goOn_cont_of_step {op : Byte} {m : Nat} (h : v.cont = .step op m) : v.goOn.cont = .step op (m + 1) := by
  simp [State.goOn, h]

theorem State.AtRow.read {src : Source} {k : Byte → Prog} (h : u.AtRow n (.read src a r k)) (b : Byte) :
    (((u.cycRead a r).goOn.supply b).consume).AtRow (n + 1) (k b) := by
  obtain ⟨hl, hnext, p, hp, hrest⟩ := h
  exact ⟨hl, State.goOn_cont_of_step hnext, p, hp, hrest.read b⟩

theorem State.AtRow.write {w : Byte} (h : u.AtRow n (.write a w r k)) :
    (u.cycWrite a w r).goOn.store.AtRow (n + 1) k := by
  obtain ⟨hl, hnext, p, hp, hrest⟩ := h
  exact ⟨hl, State.goOn_cont_of_step hnext, p, hp, hrest.write⟩

theorem State.AtRow.idle (h : u.AtRow n (.idle r k)) : (u.cycIdle r).goOn.AtRow (n + 1) k := by
  obtain ⟨hl, hnext, p, hp, hrest⟩ := h
  exact ⟨hl, State.goOn_cont_of_step hnext, p, hp, hrest.idle⟩

/-! ## One call -/

/-- Between two calls `v` names the row that `v.consume` performs. -/
theorem State.AtRow.cont (h : v.consume.AtRow (n + 1) q) : v.cont = .step v.consume.lat.op (n + 3) := by
  have hnext := h.next
  simp only [State.goOn, State.consume_cont] at hnext
  split at hnext
  · rename_i hc
    rw [hc]
    simpa using hnext
  · simp at hnext

theorem State.AtRow.rowsFrom (h : u.AtRow n q) : u.rowsFrom u.lat.op (n + 2) = some q := by
  obtain ⟨-, -, p, hp, hrest⟩ := h
  rw [State.rowsFrom, hp]
  exact hrest.after

/-- A call in the middle of an instruction performs the next row. -/
theorem State.AtRow.tick (h : v.consume.AtRow (n + 1) q) : v.tick = v.consume.rowTick q := by
  have hl : v.launched = true := v.consume_launched ▸ h.launched
  rw [State.tick, State.advance_step hl h.cont, State.instrStep, h.rowsFrom]
  rfl

/-- A step from the middle of an instruction is the run of its rows that are left (log entry 14). -/
theorem State.AtRow.step (h : v.consume.AtRow (n + 1) q) : step v = .next (q.run [] v.consume) := by
  have hl : v.launched = true := v.consume_launched ▸ h.launched
  simp [Machine.step, hl, h.cont, State.finishInstr, h.rowsFrom]

/-! ## All calls of an instruction -/

/-- All calls of the instruction that leads to `t` are done: a commit gives `t`, or one call more its fault. -/
def State.EndsIn (v t : State) : Prop :=
  (t.cont = .fetch ∧ v.commit = .ok t) ∨ ∃ f, t.cont = .halted f ∧ v.advance = (.fault f, t)

/-- `m` calls more lead to the end of the instruction that leads to `t`, and before each of them a step leads to `t`. -/
structure State.LeadsTo (v t : State) (m : Nat) : Prop where
  ends : (v.ticks m).EndsIn t
  paused : ∀ k < m, step (v.ticks k) = .next t

theorem State.EndsIn.leadsTo {t : State} (h : v.EndsIn t) : v.LeadsTo t 0 :=
  ⟨h, fun _ hk => absurd hk (Nat.not_lt_zero _)⟩

/-- One call before a state that leads to `t`. -/
theorem State.LeadsTo.before {t : State} {m : Nat} (h : v.tick.LeadsTo t m) (hv : Machine.step v = .next t) :
    v.LeadsTo t (m + 1) where
  ends := h.ends
  paused
    | 0, _ => hv
    | k + 1, hk => h.paused k (Nat.lt_of_succ_lt_succ hk)

/-- A boundary whose pending write-back is `f` ends where `f` is applied at once, faulting or not (R205, R210, R452). -/
theorem State.endsIn_settle {l : Latches} {f : Byte → Except Fault Regs} (hl : v.launched = true) (hc : v.cont = .fetch)
    (hwb : v.wb = some l) (hf : l.writeBack = some f) : v.EndsIn (v.settle (some f) v.dbus) := by
  rw [State.settle_some]
  cases hr : f v.dbus with
  | ok r => exact .inl ⟨hc, by simp only [State.commit, hwb, hf, hr]⟩
  | error e =>
    have hcommit : v.commit = .error e := by simp only [State.commit, hwb, hf, hr]
    exact .inr ⟨e, rfl, by rw [State.advance_fetch hl hc, State.fetchStep_of_commit_error hcommit]⟩

@[simp] theorem State.settle_trace (s : State) (wb : Option (Byte → Except Fault Regs)) (b : Byte) :
    (s.settle wb b).trace = s.trace := by
  cases wb with
  | none => rfl
  | some f => rw [State.settle_some]; split <;> rfl

/-- The calls of the rows `q` from `u` on lead to the end of their run, one call for each bus cycle. -/
def State.CallsLeadToRun (u : State) (q : Prog) : Prop :=
  ∃ m, (q.run [] u).trace.length = u.trace.length + m + 1 ∧ (u.rowTick q).LeadsTo (q.run [] u) m

/-- The calls after a row that is not the last. -/
theorem State.AtRow.leadsTo_of_next (h : v.consume.AtRow (n + 1) q) (hv : v.trace.length = u.trace.length + 1)
    (hq : v.consume.CallsLeadToRun q) :
    ∃ m, (q.run [] v.consume).trace.length = u.trace.length + m + 1 ∧ v.LeadsTo (q.run [] v.consume) m := by
  obtain ⟨m, hlen, hm⟩ := hq
  refine ⟨m + 1, ?_, State.LeadsTo.before (h.tick ▸ hm) h.step⟩
  rw [hlen, State.consume_trace, hv, Nat.add_right_comm _ 1 m, Nat.add_assoc _ m 1]

theorem State.AtRow.callsLeadToRun (h : u.AtRow n q) : u.CallsLeadToRun q := by
  induction q generalizing u n with
  | read src a r k ih =>
    rw [State.CallsLeadToRun, Prog.run_read_nil]
    exact State.AtRow.leadsTo_of_next (u := u) (v := (u.cycRead a r).goOn.supply (u.readMem a)) (h.read _)
      (by simp) (ih _ (h.read _))
  | write a w r k ih =>
    exact State.AtRow.leadsTo_of_next (u := u) (v := (u.cycWrite a w r).goOn.store) h.write (by simp) (ih h.write)
  | idle r k ih => exact State.AtRow.leadsTo_of_next (u := u) (v := (u.cycIdle r).goOn) h.idle (by simp) (ih h.idle)
  | readLast src a r wb =>
    rw [State.CallsLeadToRun, Prog.run_readLast_nil]
    refine ⟨0, by simp, State.EndsIn.leadsTo ?_⟩
    obtain ⟨hl, -, p, hp, hrest⟩ := h
    cases wb with
    | none => exact .inl ⟨rfl, State.commit_of_wb_none rfl⟩
    | some f =>
      have hf : u.lat.writeBack = some f := by rw [Latches.writeBack, hp]; exact hrest.deferred
      exact State.endsIn_settle (v := ((u.cycRead a r).finish true).supply (u.readMem a)) hl rfl rfl hf
  | writeLast a w r => exact ⟨0, by simp [Prog.run_writeLast], State.EndsIn.leadsTo (.inl ⟨rfl, rfl⟩)⟩
  | idleLast r => exact ⟨0, by simp [Prog.run_idleLast], State.EndsIn.leadsTo (.inl ⟨rfl, rfl⟩)⟩

/-! ## From the boundary -/

/-- The opcode fetch of a committed boundary, the host supplying the opcode. -/
theorem State.AtBoundary.tick (hb : s.AtBoundary) : s.tick = s.startFetch.supply (s.codeByte 0) := by
  have hcommit := hb.commit
  obtain ⟨hl, hc, -⟩ := hb
  rw [State.tick, State.advance_fetch hl hc, State.fetchStep_of_commit_ok hcommit, State.codeByte, BitVec.add_zero]
  rfl

/-- The call after the opcode fetch of a dispatched opcode performs the first row of its program (R203). -/
theorem State.tick_of_decode {p : Regs → Prog} (hl : s.launched = true) (hc : s.cont = .decode)
    (hd : s.dispatches s.dbus = true) (hp : progOf s.dbus = some p) :
    s.tick = (s.latchOpcode s.dbus).rowTick (p s.regs) := by
  rw [State.tick, State.advance_decode hl hc, State.decodeStep_of_dispatches hd hp]
  rfl

/-- A step after the opcode fetch of a dispatched opcode is the run of its program (log entry 14). -/
theorem State.step_of_decode {p : Regs → Prog} (hl : s.launched = true) (hc : s.cont = .decode)
    (hd : s.dispatches s.dbus = true) (hp : progOf s.dbus = some p) :
    step s = .next ((p s.regs).run [] (s.latchOpcode s.dbus)) := by
  have hd' : (s.latchOpcode s.dbus).dispatches s.dbus = true := hd
  simp [Machine.step, hl, hc, State.finishInstr, hd', hp]

/-- A step from a committed boundary is the opcode fetch and, for each bus cycle after it, one call more (R212). -/
theorem State.AtBoundary.leadsTo (hb : s.AtBoundary) : ∃ t m, Machine.step s = .next t ∧ t.trace.length = m + 1 ∧
    s.tick.LeadsTo t m := by
  have ⟨hl, _, _⟩ := hb
  have hl' : s.tick.launched = true := hb.tick ▸ hl
  have hc : s.tick.cont = .decode := by rw [hb.tick]; rfl
  cases hd : s.dispatches (s.codeByte 0) with
  | false =>
    refine ⟨_, 0, hb.step_of_not_dispatches hd, rfl, State.EndsIn.leadsTo (.inr ⟨_, rfl, ?_⟩)⟩
    rw [State.advance_decode hl' hc, hb.tick]
    exact State.decodeStep_of_not_dispatches hd
  | true =>
    obtain ⟨p, hp⟩ := State.exists_progOf_of_dispatches hd
    obtain ⟨m, hlen, hm⟩ := (State.fetchOpcode_atRow hl hp).callsLeadToRun
    have hd' : s.tick.dispatches s.tick.dbus = true := by rw [hb.tick]; exact hd
    have hp' : progOf s.tick.dbus = some p := by rw [hb.tick]; exact hp
    have htick := State.tick_of_decode hl' hc hd' hp'
    have hstep := State.step_of_decode hl' hc hd' hp'
    refine ⟨_, m + 1, hb.step_of_dispatches hd hp, ?_, State.LeadsTo.before ?_ ?_⟩
    · rw [hlen, State.fetchOpcode_trace, List.length_singleton, Nat.add_comm 1 m]
    · rw [htick, hb.tick]; exact hm
    · rw [hstep, hb.tick]; rfl

end

/-- Settles O37: the calls lead to the end of the step, where a commit gives its state or one call more its fault. -/
theorem stepIsTicks : Obligations.StepIsTicks := by
  intro s hb
  obtain ⟨t, m, hs, hlen, hm⟩ := hb.leadsTo
  refine ⟨t, hs, ?_⟩
  rw [hlen]
  exact hm.ends

/-- Settles O38: before each call but the first, which is at the boundary, a step is the rest of the instruction. -/
theorem pausedStepIsTheStep : Obligations.PausedStepIsTheStep := by
  intro s t k hb hst hk hlt
  obtain ⟨t', m, hs, hlen, hm⟩ := hb.leadsTo
  obtain rfl : t' = t := Host.Outcome.next.inj (hs.symm.trans hst)
  obtain ⟨k, rfl⟩ := Nat.exists_eq_succ_of_ne_zero (Nat.ne_of_gt hk)
  exact hm.paused k (by omega)

end Sys2Proof.Machine
end

section
/-! The read class (43_arith_logic.md R230 to R239; 41_addressing.md R158, R159): an instruction whose operation gives
certain registers completes with them, in every memory form and in the immediate form; and what the operations of the
arithmetic and logic instructions give. -/

namespace Sys2Proof.Machine

/-! ## What an operation gives -/

/-- On the registers of `s`, wherever PC has moved, the operation writes back what `r8` gives at 8 bits and `r16` at 16,
and raises no fault. -/
structure ReadOp.Gives (op : ReadOp) (s : State) (r8 : Byte → Regs → Regs) (r16 : Word → Regs → Regs) : Prop where
  byte : ∀ v pc, op 8 v { s.regs with pc := pc } = .ok (r8 v { s.regs with pc := pc })
  word : ∀ v pc, op 16 v { s.regs with pc := pc } = .ok (r16 v { s.regs with pc := pc })

/-- An operation that gives the same registers on every register file. -/
theorem ReadOp.gives_of_forall {op : ReadOp} {r8 : Byte → Regs → Regs} {r16 : Word → Regs → Regs}
    (h8 : ∀ v r, op 8 v r = .ok (r8 v r)) (h16 : ∀ v r, op 16 v r = .ok (r16 v r)) (s : State) : op.Gives s r8 r16 :=
  ⟨fun v _ => h8 v _, fun v _ => h16 v _⟩

end Sys2Proof.Machine

namespace Sys2Proof.Claims

open Sys2Proof.Machine

/-! ## From the operation to the instruction -/

section
variable {s : State} {r8 : Byte → Regs → Regs} {r16 : Word → Regs → Regs}

/-- A memory form reads its operand at EA and EAhi and completes with what its operation gives (R158, R230). -/
theorem Form.RunsAs.reads {f : Form} {w8 : Regs → Bool} {op : Regs → ReadOp}
    (hf : f.RunsAs fun r => resolve f.m .read r fun ea q => readPhase (w8 q) ea q (op r))
    (hw : ∀ (r : Regs) pc, w8 { r with pc := pc } = w8 r) (hcode : f.i.opcode = f.op)
    (h : (op s.regs.incPc).Gives s r8 r16) : f.Reads s (w8 s.regs) r8 r16 := by
  refine ⟨hcode, fun hd => completes_of_yields (hf.exec_eq s) hd fun t hm ht =>
    resolve_yields hm ht hf.length fun u hm' ht' => ?_⟩
  have hphase := readPhase_yields (code := []) (s := u) (w8 := w8 s.regs) (ea := f.ea s) (op := op s.regs.incPc)
    (r := f.next s) (R := if w8 s.regs then r8 (s.readMem (f.ea s).lo) (f.next s)
      else r16 (word (s.readMem (f.ea s).hi) (s.readMem (f.ea s).lo)) (f.next s))
    (fun h8 => by rw [if_pos h8, State.readMem_of_mem hm']; exact h.byte _ _)
    (fun h16 => by
      rw [if_neg (by simp [h16]), State.readMem_of_mem hm', State.readMem_of_mem hm']
      exact h.word _ _)
  rw [hm', ht'] at hphase
  rw [hw, ← hf.length]
  exact hphase

/-- Every memory form of a list that runs at the width of M. -/
theorem readM_forms_read {fs : List Form} (op : Byte → Regs → ReadOp)
    (hfs : ∀ f ∈ fs, f.RunsAs fun r => readM f.m r (op f.op r))
    (hcode : fs.map (fun f => f.i.opcode) = fs.map Form.op) (h : ∀ c r, (op c r).Gives s r8 r16) :
    ∀ f ∈ fs, f.Reads s s.regs.fM r8 r16 :=
  fun f hf => (hfs f hf).reads (w8 := Regs.fM) (fun _ _ => rfl) (List.map_inj_left.1 hcode f hf) (h _ _)

/-- Every memory form of a list that runs at the width of X_flag. -/
theorem readX_forms_read {fs : List Form} (op : ReadOp) (hfs : ∀ f ∈ fs, f.RunsAs fun r => readX f.m r op)
    (hcode : fs.map (fun f => f.i.opcode) = fs.map Form.op) (h : op.Gives s r8 r16) :
    ∀ f ∈ fs, f.Reads s s.regs.fX r8 r16 :=
  fun f hf => (hfs f hf).reads (w8 := Regs.fX) (fun _ _ => rfl) (List.map_inj_left.1 hcode f hf) h

/-- The immediate form takes its operand from the instruction stream and completes with what its operation gives
(R159). -/
theorem readsImm_of_gives {i : Imm → Instr} {c : Byte} {w8 : Regs → Bool} {op : Regs → ReadOp}
    (hexec : ∀ v, exec (i v) s = runInstr c (fun r => immPhase (w8 r) r (op r)) (immBytes v) s)
    (hw : ∀ (r : Regs) pc, w8 { r with pc := pc } = w8 r) (hcode : ∀ v, (i v).opcode = c)
    (h : (op s.regs.incPc).Gives s r8 r16) : ReadsImm i c s (w8 s.regs) r8 r16 := by
  refine ⟨hcode, fun hd => ⟨fun h8 v => ?_, fun h16 v => ?_⟩⟩
  · exact completes_of_yields (hexec _) hd fun t hm ht =>
      immPhase_yields8 ((hw _ _).trans h8) hm ht (h.byte v _)
  · exact completes_of_yields (hexec _) hd fun t hm ht =>
      immPhase_yields16 ((hw _ _).trans h16) hm ht (by rw [word_hi8_lo8]; exact h.word v _)

/-- The immediate form at the width of M. -/
theorem immM_reads {i : Imm → Instr} {c : Byte} (op : Byte → Regs → ReadOp)
    (hexec : ∀ v, exec (i v) s = runInstr c (fun r => immM r (op c r)) (immBytes v) s)
    (hcode : ∀ v, (i v).opcode = c) (h : ∀ c r, (op c r).Gives s r8 r16) : ReadsImm i c s s.regs.fM r8 r16 :=
  readsImm_of_gives (w8 := Regs.fM) hexec (fun _ _ => rfl) hcode (h _ _)

/-- The immediate form at the width of X_flag. -/
theorem immX_reads {i : Imm → Instr} {c : Byte} (op : ReadOp)
    (hexec : ∀ v, exec (i v) s = runInstr c (fun r => immX r op) (immBytes v) s)
    (hcode : ∀ v, (i v).opcode = c) (h : op.Gives s r8 r16) : ReadsImm i c s s.regs.fX r8 r16 :=
  readsImm_of_gives (w8 := Regs.fX) hexec (fun _ _ => rfl) hcode h

end

/-! ## The register operations -/

theorem loadA_eq_loadA8 (r : Regs) (v : Byte) : r.loadA v = loadA8 v r := by
  rw [Regs.loadA, Regs.setA, putLow_eight]; rfl

theorem loadA_eq_loadA16 (r : Regs) (v : Word) : r.loadA v = loadA16 v r := by
  rw [Regs.loadA, Regs.setA, putLow_sixteen]; rfl

theorem putSum_eq_sum8 (r : Regs) (o : AluOut 8) : r.putSum o = sum8 o r :=
  congrArg (fun q : Regs => { q with fC := o.c, fV := o.v }) (loadA_eq_loadA8 r o.res)

theorem putSum_eq_sum16 (r : Regs) (o : AluOut 16) : r.putSum o = sum16 o r :=
  congrArg (fun q : Regs => { q with fC := o.c, fV := o.v }) (loadA_eq_loadA16 r o.res)

theorem putCompare_compare {n : Nat} (r : Regs) (v b : BitVec n) :
    r.putCompare (Machine.compare v b) = compared v b r := rfl

/-! ## The operations of 43_arith_logic.md -/

section
variable (s : State)

/-- An addition of an operand that `f` prepares, with D_flag = 0: there is no fault, whatever it would report. -/
theorem sumOp_gives (f : (n : Nat) → BitVec n → BitVec n) (e : Fault) (hD : s.regs.fD = false) :
    ReadOp.Gives
      (fun n b r => if r.fD then .error e else .ok (r.putSum (addWithCarry (r.getA n) (f n b) r.fC))) s
      (fun v r => sum8 (addWithCarry (lo8 r.a) (f 8 v) r.fC) r)
      (fun v r => sum16 (addWithCarry r.a (f 16 v) r.fC) r) where
  byte v pc := by rw [if_neg (by simp [hD]), putSum_eq_sum8, Regs.getA_eight]
  word v pc := by rw [if_neg (by simp [hD]), putSum_eq_sum16, Regs.getA_sixteen]

theorem adcOp_gives (hD : s.regs.fD = false) (c : Byte) (r0 : Regs) : (adcOp c r0).Gives s
    (fun v r => sum8 (addWithCarry (lo8 r.a) v r.fC) r) (fun v r => sum16 (addWithCarry r.a v r.fC) r) :=
  sumOp_gives s (fun _ b => b) (decimalFault c r0) hD

theorem sbcOp_gives (hD : s.regs.fD = false) (c : Byte) (r0 : Regs) : (sbcOp c r0).Gives s
    (fun v r => sum8 (addWithCarry (lo8 r.a) (~~~v) r.fC) r) (fun v r => sum16 (addWithCarry r.a (~~~v) r.fC) r) :=
  sumOp_gives s (fun _ b => ~~~b) (decimalFault c r0) hD

/-- A comparison of the register `reg` at the width of the operand. -/
theorem compareOp_gives (reg : Regs → Word) :
    ReadOp.Gives (fun n b r => .ok (r.putCompare (Machine.compare ((reg r).setWidth n) b))) s
      (fun v r => compared (lo8 (reg r)) v r) (fun v r => compared (reg r) v r) :=
  ReadOp.gives_of_forall (fun v r => by rw [putCompare_compare, setWidth_eq_lo8])
    (fun v r => by rw [putCompare_compare, BitVec.setWidth_eq]) s

/-- A load of A with what `f` makes of A and the operand. -/
theorem logicOp_gives (f : (n : Nat) → BitVec n → BitVec n → BitVec n) :
    ReadOp.Gives (fun n b r => .ok (r.loadA (f n (r.getA n) b))) s
      (fun v r => loadA8 (f 8 (lo8 r.a) v) r) (fun v r => loadA16 (f 16 r.a v) r) :=
  ReadOp.gives_of_forall (fun v r => by rw [loadA_eq_loadA8, Regs.getA_eight])
    (fun v r => by rw [loadA_eq_loadA16, Regs.getA_sixteen]) s

theorem cmpOp_gives : cmpOp.Gives s (fun v r => compared (lo8 r.a) v r) (fun v r => compared r.a v r) :=
  compareOp_gives s Regs.a

theorem cpxOp_gives : cpxOp.Gives s (fun v r => compared (lo8 r.x) v r) (fun v r => compared r.x v r) :=
  compareOp_gives s Regs.x

theorem cpyOp_gives : cpyOp.Gives s (fun v r => compared (lo8 r.y) v r) (fun v r => compared r.y v r) :=
  compareOp_gives s Regs.y

theorem andOp_gives : andOp.Gives s (fun v r => loadA8 (lo8 r.a &&& v) r) (fun v r => loadA16 (r.a &&& v) r) :=
  logicOp_gives s fun _ a b => a &&& b

theorem oraOp_gives : oraOp.Gives s (fun v r => loadA8 (lo8 r.a ||| v) r) (fun v r => loadA16 (r.a ||| v) r) :=
  logicOp_gives s fun _ a b => a ||| b

theorem eorOp_gives : eorOp.Gives s (fun v r => loadA8 (lo8 r.a ^^^ v) r) (fun v r => loadA16 (r.a ^^^ v) r) :=
  logicOp_gives s fun _ a b => a ^^^ b

/-- BIT in its memory forms: the sign bit of the operand is bit 7 or bit 15. -/
theorem bitOp_gives : bitOp.Gives s
    (fun v r => { r with fZ := (lo8 r.a &&& v) == 0#8, fN := v.getLsbD 7, fV := v.getLsbD 6 })
    (fun v r => { r with fZ := (r.a &&& v) == 0#16, fN := v.getLsbD 15, fV := v.getLsbD 14 }) :=
  ReadOp.gives_of_forall (fun v r => by rw [bitOp, testZ, Regs.getA_eight, BitVec.msb_eq_getLsbD_last])
    (fun v r => by rw [bitOp, testZ, Regs.getA_sixteen, BitVec.msb_eq_getLsbD_last]) s

theorem bitImmOp_gives : bitImmOp.Gives s (fun v r => { r with fZ := (lo8 r.a &&& v) == 0#8 })
    (fun v r => { r with fZ := (r.a &&& v) == 0#16 }) :=
  ReadOp.gives_of_forall (fun v r => by rw [bitImmOp, testZ, Regs.getA_eight])
    (fun v r => by rw [bitImmOp, testZ, Regs.getA_sixteen]) s

end

/-! ## The families -/

/-- Settles O3: with D_flag = 0 neither operation faults, so every form completes with its sum. -/
theorem addAndSubtract : Obligations.AddAndSubtract := by
  intro s b w l hD
  exact ⟨readM_forms_read adcOp (runsAs_of_map rfl) rfl (adcOp_gives s hD),
    readM_forms_read sbcOp (runsAs_of_map rfl) rfl (sbcOp_gives s hD),
    immM_reads adcOp (fun _ => rfl) (fun _ => rfl) (adcOp_gives s hD),
    immM_reads sbcOp (fun _ => rfl) (fun _ => rfl) (sbcOp_gives s hD)⟩

/-- Settles O5: CMP runs at the width of M, CPX and CPY at that of X_flag; each writes the comparison's flags alone. -/
theorem compares : Obligations.Compares := by
  intro s b w l
  exact ⟨readM_forms_read (fun _ _ => cmpOp) (runsAs_of_map rfl) rfl fun _ _ => cmpOp_gives s,
    readX_forms_read cpxOp (runsAs_of_map rfl) rfl (cpxOp_gives s),
    readX_forms_read cpyOp (runsAs_of_map rfl) rfl (cpyOp_gives s),
    immM_reads (fun _ _ => cmpOp) (fun _ => rfl) (fun _ => rfl) fun _ _ => cmpOp_gives s,
    immX_reads cpxOp (fun _ => rfl) (fun _ => rfl) (cpxOp_gives s),
    immX_reads cpyOp (fun _ => rfl) (fun _ => rfl) (cpyOp_gives s)⟩

/-- Settles O6: each operation is a load of A with the bitwise result. -/
theorem logic : Obligations.Logic := by
  intro s b w l
  exact ⟨readM_forms_read (fun _ _ => andOp) (runsAs_of_map rfl) rfl fun _ _ => andOp_gives s,
    readM_forms_read (fun _ _ => oraOp) (runsAs_of_map rfl) rfl fun _ _ => oraOp_gives s,
    readM_forms_read (fun _ _ => eorOp) (runsAs_of_map rfl) rfl fun _ _ => eorOp_gives s,
    immM_reads (fun _ _ => andOp) (fun _ => rfl) (fun _ => rfl) fun _ _ => andOp_gives s,
    immM_reads (fun _ _ => oraOp) (fun _ => rfl) (fun _ => rfl) fun _ _ => oraOp_gives s,
    immM_reads (fun _ _ => eorOp) (fun _ => rfl) (fun _ => rfl) fun _ _ => eorOp_gives s⟩

/-- Settles O7: the memory forms and BIT # run different operations, and the second writes Z alone. -/
theorem bitTest : Obligations.BitTest := by
  intro s b w l
  exact ⟨readM_forms_read (fun _ _ => bitOp) (runsAs_of_map rfl) rfl fun _ _ => bitOp_gives s,
    immM_reads (fun _ _ => bitImmOp) (fun _ => rfl) (fun _ => rfl) fun _ _ => bitImmOp_gives s⟩

end Sys2Proof.Claims
end

section
/-! The read-modify-write class (44_shift_incdec.md R260 to R266, R271, R272; 41_addressing.md R158, R175) and the index
counts (R267 to R270, R176): an instruction whose operation gives a certain operand and certain registers completes with
them, in every memory form and on the accumulator; and what the operations of the family give. -/

namespace Sys2Proof.Machine

/-- On the registers of `s`, wherever PC has moved, the operation gives what `f8` gives at 8 bits and `f16` at 16. -/
structure RmwOp.Gives (op : RmwOp) (s : State) (f8 : Byte → Regs → Byte × Regs) (f16 : Word → Regs → Word × Regs) :
    Prop where
  byte : ∀ v pc, op 8 v { s.regs with pc := pc } = f8 v { s.regs with pc := pc }
  word : ∀ v pc, op 16 v { s.regs with pc := pc } = f16 v { s.regs with pc := pc }

/-- Every operation gives what it is at each width. -/
theorem RmwOp.gives_self (op : RmwOp) (s : State) : op.Gives s (op 8) (op 16) := ⟨fun _ _ => rfl, fun _ _ => rfl⟩

/-- The operation itself does not write A: on the accumulator the write of its result is the only one (R175). -/
def RmwOp.LeavesA (op : RmwOp) : Prop := ∀ n v r, (op n v r).2.a = r.a

/-- The rows of RMW(8, f), whose result is a byte (R158). -/
theorem EA.rmwRows_zext (ea : EA) (v : Byte) : ea.rmwRows true (zext v) = [.read ea.lo, .internal, .write ea.lo v] := by
  simp [EA.rmwRows]

end Sys2Proof.Machine

namespace Sys2Proof.Claims

open Sys2Proof.Machine

/-! ## From the operation to the instruction -/

section
variable {s : State} {f8 : Byte → Regs → Byte × Regs} {f16 : Word → Regs → Word × Regs}

/-- A memory form reads its operand at EA and EAhi and writes back what its operation gives (R158, R260). -/
theorem Form.RunsAs.modifies {f : Form} {op : RmwOp} (hf : f.RunsAs fun r => rmwM f.m r op)
    (hcode : f.i.opcode = f.op) (h : op.Gives s f8 f16) : f.Modifies s f8 f16 := by
  refine ⟨hcode, fun hd => ⟨fun h8 => ?_, fun h16 => ?_⟩⟩
  · refine completes_of_yields (hf.exec_eq s) hd fun t hm ht => ?_
    have hy := rmwM_yields8 hm ht hf.length h8 (h.byte _ _)
    rw [← hf.length, ← EA.rmwRows_zext] at hy
    exact hy
  · refine completes_of_yields (hf.exec_eq s) hd fun t hm ht => ?_
    have hy := rmwM_yields16 hm ht hf.length h16 (h.word _ _)
    rw [← hf.length] at hy
    exact hy

/-- Every memory form of a list. -/
theorem rmwM_forms_modify {fs : List Form} (op : RmwOp) (hfs : ∀ f ∈ fs, f.RunsAs fun r => rmwM f.m r op)
    (hcode : fs.map (fun f => f.i.opcode) = fs.map Form.op) (h : op.Gives s f8 f16) :
    ∀ f ∈ fs, f.Modifies s f8 f16 :=
  fun f hf => (hfs f hf).modifies (List.map_inj_left.1 hcode f hf) h

/-- An instruction whose only row after the opcode Read is an Internal cycle that leaves the registers `g` gives
(R175, R176). -/
theorem implied_of_idleLast {i : Instr} {c : Byte} {p : Regs → Prog} {g : Regs → Regs}
    (hexec : exec i s = runInstr c p [] s) (hcode : i.opcode = c) (hp : ∀ r, p r = .idleLast (g r)) :
    Implied i c s g := by
  refine ⟨hcode, fun hd => completes_of_yields hexec hd fun t hm ht => ?_⟩
  rw [hp, ← hm, ← ht]
  exact idleLast_yields

/-- The accumulator form is the operation at the width of M, its result written to `A_w` (R175). -/
theorem accPhase_eq_onA {op : RmwOp} (h : op.LeavesA) (r : Regs) :
    accPhase r op = .idleLast (onA (op 8) (op 16) r) := by
  cases hM : r.fM with
  | true => simp [accPhase, onA, hM, Regs.setA, h 8]
  | false => simp [accPhase, onA, hM, Regs.setA]

/-- The accumulator form of an operation completes with the operation done on `A_w`. -/
theorem onA_implied {i : Instr} {c : Byte} (op : RmwOp) (hexec : exec i s = runInstr c (fun r => accPhase r op) [] s)
    (hcode : i.opcode = c) (h : op.LeavesA) : Implied i c s (onA (op 8) (op 16)) :=
  implied_of_idleLast hexec hcode (accPhase_eq_onA h)

end

/-! ## The register operations -/

theorem loadX_eq_loadX8 (r : Regs) (v : Byte) : r.loadX v = loadX8 v r := by
  rw [Regs.loadX, Regs.setX, putLow_eight]; rfl

theorem loadX_eq_loadX16 (r : Regs) (v : Word) : r.loadX v = loadX16 v r := by
  rw [Regs.loadX, Regs.setX, putLow_sixteen]; rfl

theorem loadY_eq_loadY8 (r : Regs) (v : Byte) : r.loadY v = loadY8 v r := by
  rw [Regs.loadY, Regs.setY, putLow_eight]; rfl

theorem loadY_eq_loadY16 (r : Regs) (v : Word) : r.loadY v = loadY16 v r := by
  rw [Regs.loadY, Regs.setY, putLow_sixteen]; rfl

/-- A load of X, at the width of X_flag, with what is made of the registers at that width (R16). -/
theorem atX_loadX (v : (n : Nat) → Regs → BitVec n) (r : Regs) :
    (r.atX fun n r => r.loadX (v n r)) = if r.fX then loadX8 (v 8 r) r else loadX16 (v 16 r) r := by
  rw [Regs.atX, loadX_eq_loadX8, loadX_eq_loadX16]

/-- A load of Y, at the width of X_flag, with what is made of the registers at that width (R16). -/
theorem atX_loadY (v : (n : Nat) → Regs → BitVec n) (r : Regs) :
    (r.atX fun n r => r.loadY (v n r)) = if r.fX then loadY8 (v 8 r) r else loadY16 (v 16 r) r := by
  rw [Regs.atX, loadY_eq_loadY8, loadY_eq_loadY16]

/-- An instruction that loads X at the width of X_flag (R176, R267). -/
theorem loadX_implied {s : State} {i : Instr} {c : Byte} (v : (n : Nat) → Regs → BitVec n)
    (hexec : exec i s = runInstr c (fun r => implied r fun r => r.atX fun n r => r.loadX (v n r)) [] s)
    (hcode : i.opcode = c) : Implied i c s fun r => if r.fX then loadX8 (v 8 r) r else loadX16 (v 16 r) r :=
  implied_of_idleLast hexec hcode fun r => congrArg Prog.idleLast (atX_loadX v r)

/-- An instruction that loads Y at the width of X_flag (R176, R268). -/
theorem loadY_implied {s : State} {i : Instr} {c : Byte} (v : (n : Nat) → Regs → BitVec n)
    (hexec : exec i s = runInstr c (fun r => implied r fun r => r.atX fun n r => r.loadY (v n r)) [] s)
    (hcode : i.opcode = c) : Implied i c s fun r => if r.fX then loadY8 (v 8 r) r else loadY16 (v 16 r) r :=
  implied_of_idleLast hexec hcode fun r => congrArg Prog.idleLast (atX_loadY v r)

/-- A step of `X_w` (R267, R269). -/
theorem stepX_implied {s : State} {i : Instr} {c : Byte} (step : (n : Nat) → BitVec n → BitVec n)
    (hexec : exec i s = runInstr c (fun r => implied r fun r => r.atX fun n r => r.loadX (step n (r.getX n))) [] s)
    (hcode : i.opcode = c) :
    Implied i c s fun r => if r.fX then loadX8 (step 8 (lo8 r.x)) r else loadX16 (step 16 r.x) r := by
  have h := loadX_implied (fun n r => step n (r.getX n)) hexec hcode
  simpa only [Regs.getX_eight, Regs.getX_sixteen] using h

/-- A step of `Y_w` (R268, R270). -/
theorem stepY_implied {s : State} {i : Instr} {c : Byte} (step : (n : Nat) → BitVec n → BitVec n)
    (hexec : exec i s = runInstr c (fun r => implied r fun r => r.atX fun n r => r.loadY (step n (r.getY n))) [] s)
    (hcode : i.opcode = c) :
    Implied i c s fun r => if r.fX then loadY8 (step 8 (lo8 r.y)) r else loadY16 (step 16 r.y) r := by
  have h := loadY_implied (fun n r => step n (r.getY n)) hexec hcode
  simpa only [Regs.getY_eight, Regs.getY_sixteen] using h

/-! ## TSB and TRB -/

section
variable (s : State)

/-- TSB sets the bits of A that stood at the boundary. -/
theorem tsbOp_gives : tsbOp.Gives s (tsb (lo8 s.regs.a)) (tsb s.regs.a) where
  byte v pc := by rw [tsbOp, Regs.getA_eight]; rfl
  word v pc := by rw [tsbOp, Regs.getA_sixteen]; rfl

/-- TRB clears the bits of A that stood at the boundary. -/
theorem trbOp_gives : trbOp.Gives s (trb (lo8 s.regs.a)) (trb s.regs.a) where
  byte v pc := by rw [trbOp, Regs.getA_eight]; rfl
  word v pc := by rw [trbOp, Regs.getA_sixteen]; rfl

end

/-! ## The families -/

/-- Settles O8: the operations are those of the statement at each width, and beside their result they write flags
only. -/
theorem shiftsAndRotates : Obligations.ShiftsAndRotates := by
  intro s b w l
  exact ⟨rmwM_forms_modify aslOp (runsAs_of_map rfl) rfl (aslOp.gives_self s),
    rmwM_forms_modify lsrOp (runsAs_of_map rfl) rfl (lsrOp.gives_self s),
    rmwM_forms_modify rolOp (runsAs_of_map rfl) rfl (rolOp.gives_self s),
    rmwM_forms_modify rorOp (runsAs_of_map rfl) rfl (rorOp.gives_self s),
    onA_implied aslOp rfl rfl fun _ _ _ => rfl, onA_implied lsrOp rfl rfl fun _ _ _ => rfl,
    onA_implied rolOp rfl rfl fun _ _ _ => rfl, onA_implied rorOp rfl rfl fun _ _ _ => rfl⟩

/-- Settles O9: both operations write Z and N beside their result. -/
theorem incrementsAndDecrements : Obligations.IncrementsAndDecrements := by
  intro s b w l
  exact ⟨rmwM_forms_modify incOp (runsAs_of_map rfl) rfl (incOp.gives_self s),
    rmwM_forms_modify decOp (runsAs_of_map rfl) rfl (decOp.gives_self s),
    onA_implied incOp rfl rfl fun _ _ _ => rfl, onA_implied decOp rfl rfl fun _ _ _ => rfl⟩

/-- Settles O10: A is read where the operation runs, and is there as it was at the boundary. -/
theorem testAndSetBits : Obligations.TestAndSetBits := by
  intro s b w l
  exact ⟨rmwM_forms_modify tsbOp (runsAs_of_map rfl) rfl (tsbOp_gives s),
    rmwM_forms_modify trbOp (runsAs_of_map rfl) rfl (trbOp_gives s)⟩

/-- Settles O11: a count is a load of the index register with its step at the width of X_flag. -/
theorem indexCounts : Obligations.IndexCounts := by
  intro s
  exact ⟨stepX_implied (fun _ => inc) rfl rfl, stepY_implied (fun _ => inc) rfl rfl,
    stepX_implied (fun _ => dec) rfl rfl, stepY_implied (fun _ => dec) rfl rfl⟩

end Sys2Proof.Claims
end

section
/-! Loads and stores (45_load_store.md R290 to R296; 41_addressing.md R158, R159): a load is a read-class instruction
whose operation writes the register with Z and N, and a store completes with its register, or zero, at EA and EAhi. -/

namespace Sys2Proof.Claims

open Sys2Proof.Machine

/-! ## The operations of the loads -/

section
variable (s : State)

theorem ldaOp_gives : ldaOp.Gives s loadA8 loadA16 :=
  ReadOp.gives_of_forall (fun v r => congrArg Except.ok (loadA_eq_loadA8 r v))
    (fun v r => congrArg Except.ok (loadA_eq_loadA16 r v)) s

theorem ldxOp_gives : ldxOp.Gives s loadX8 loadX16 :=
  ReadOp.gives_of_forall (fun v r => congrArg Except.ok (loadX_eq_loadX8 r v))
    (fun v r => congrArg Except.ok (loadX_eq_loadX16 r v)) s

theorem ldyOp_gives : ldyOp.Gives s loadY8 loadY16 :=
  ReadOp.gives_of_forall (fun v r => congrArg Except.ok (loadY_eq_loadY8 r v))
    (fun v r => congrArg Except.ok (loadY_eq_loadY16 r v)) s

end

/-! ## The memory forms of the stores -/

section
variable {s : State}

/-- A memory form whose value and width do not depend on PC writes the value at EA and, at 16 bits, EAhi (R158). -/
theorem Form.RunsAs.stores {f : Form} {w8 : Regs → Bool} {v : Regs → Word}
    (hf : f.RunsAs fun r => resolve f.m .write r fun ea r => writePhase (w8 r) ea (v r) r)
    (hw : ∀ (r : Regs) pc, w8 { r with pc := pc } = w8 r) (hv : ∀ (r : Regs) pc, v { r with pc := pc } = v r)
    (hcode : f.i.opcode = f.op) : f.Stores s (w8 s.regs) (v s.regs) := by
  refine ⟨hcode, fun hd => completes_of_yields (hf.exec_eq s) hd fun t hm ht => ?_⟩
  have hy := store_yields hm ht hf.length hw hv
  rw [← hf.length] at hy
  exact hy

/-- Every memory form of a list that stores at the width of M. -/
theorem storeM_forms_store {fs : List Form} (v : Regs → Word) (hv : ∀ (r : Regs) pc, v { r with pc := pc } = v r)
    (hfs : ∀ f ∈ fs, f.RunsAs fun r => storeM f.m r v)
    (hcode : fs.map (fun f => f.i.opcode) = fs.map Form.op) : ∀ f ∈ fs, f.Stores s s.regs.fM (v s.regs) :=
  fun f hf => (hfs f hf).stores (w8 := Regs.fM) (fun _ _ => rfl) hv (List.map_inj_left.1 hcode f hf)

/-- Every memory form of a list that stores at the width of X_flag. -/
theorem storeX_forms_store {fs : List Form} (v : Regs → Word) (hv : ∀ (r : Regs) pc, v { r with pc := pc } = v r)
    (hfs : ∀ f ∈ fs, f.RunsAs fun r => storeX f.m r v)
    (hcode : fs.map (fun f => f.i.opcode) = fs.map Form.op) : ∀ f ∈ fs, f.Stores s s.regs.fX (v s.regs) :=
  fun f hf => (hfs f hf).stores (w8 := Regs.fX) (fun _ _ => rfl) hv (List.map_inj_left.1 hcode f hf)

end

/-! ## The families -/

/-- Settles O1: LDA loads at the width of M, LDX and LDY at that of X_flag; each writes Z and N beside its register. -/
theorem loads : Obligations.Loads := by
  intro s b w l
  exact ⟨readM_forms_read (fun _ _ => ldaOp) (runsAs_of_map rfl) rfl fun _ _ => ldaOp_gives s,
    readX_forms_read ldxOp (runsAs_of_map rfl) rfl (ldxOp_gives s),
    readX_forms_read ldyOp (runsAs_of_map rfl) rfl (ldyOp_gives s),
    immM_reads (fun _ _ => ldaOp) (fun _ => rfl) (fun _ => rfl) fun _ _ => ldaOp_gives s,
    immX_reads ldxOp (fun _ => rfl) (fun _ => rfl) (ldxOp_gives s),
    immX_reads ldyOp (fun _ => rfl) (fun _ => rfl) (ldyOp_gives s)⟩

/-- Settles O2: STA and STZ store at the width of M, STX and STY at that of X_flag. -/
theorem stores : Obligations.Stores := by
  intro s b w l
  exact ⟨storeM_forms_store Regs.a (fun _ _ => rfl) (runsAs_of_map rfl) rfl,
    storeX_forms_store Regs.x (fun _ _ => rfl) (runsAs_of_map rfl) rfl,
    storeX_forms_store Regs.y (fun _ _ => rfl) (runsAs_of_map rfl) rfl,
    storeM_forms_store (fun _ => 0x0000#16) (fun _ _ => rfl) (runsAs_of_map rfl) rfl⟩

end Sys2Proof.Claims
end

section
/-! The transfers and XBA (46_transfer_stack.md R311 to R323; 41_addressing.md R176): an instruction that writes what it
reads in a register, at the width of M or X_flag or at 16 bits always, completes with that write alone. -/

namespace Sys2Proof.Claims

open Sys2Proof.Machine

/-! ## Register writes at the two widths -/

/-- The register write `op` is `f8` at 8 bits and `f16` at 16. -/
structure WritesAs (op : (n : Nat) → BitVec n → Regs → Regs) (f8 : Byte → Regs → Regs) (f16 : Word → Regs → Regs) :
    Prop where
  byte : ∀ v r, op 8 v r = f8 v r
  word : ∀ v r, op 16 v r = f16 v r

theorem loadA_writesAs : WritesAs (fun _ v r => r.loadA v) loadA8 loadA16 :=
  ⟨fun v r => loadA_eq_loadA8 r v, fun v r => loadA_eq_loadA16 r v⟩

theorem loadX_writesAs : WritesAs (fun _ v r => r.loadX v) loadX8 loadX16 :=
  ⟨fun v r => loadX_eq_loadX8 r v, fun v r => loadX_eq_loadX16 r v⟩

theorem loadY_writesAs : WritesAs (fun _ v r => r.loadY v) loadY8 loadY16 :=
  ⟨fun v r => loadY_eq_loadY8 r v, fun v r => loadY_eq_loadY16 r v⟩

/-! ## Transfers -/

section
variable {s : State}

/-- A transfer of `src` at the width `w8` of its destination (R311 to R317). -/
theorem transfer_implied {i : Instr} {c : Byte} {op : (n : Nat) → BitVec n → Regs → Regs} {f8 : Byte → Regs → Regs}
    {f16 : Word → Regs → Regs} (w8 : Regs → Bool) (src : Regs → Word) (hop : WritesAs op f8 f16)
    (hexec : exec i s = runInstr c (fun r => implied r fun r =>
      if w8 r then op 8 ((src r).setWidth 8) r else op 16 ((src r).setWidth 16) r) [] s)
    (hcode : i.opcode = c) : Implied i c s fun r => if w8 r then f8 (lo8 (src r)) r else f16 (src r) r :=
  implied_of_idleLast hexec hcode fun r => by
    rw [implied, hop.byte, hop.word, setWidth_eq_lo8, BitVec.setWidth_eq]

/-- XBA has a second Internal cycle, in which it writes A, Z and N (R323). -/
theorem xba_completes (hd : s.dispatches 0xEB#8 = true) :
    Completes .xba s (nextPc s 1).exchange s.mem (s.opcodeRow ++ [.internal, .internal]) := by
  refine completes_of_yields (p := progXba) rfl hd fun t hm ht => idle_yields fun u hum hut => ?_
  have hy := idleLast_yields (r := (nextPc s 1).exchange) (s := u) (code := [])
  rw [hum, hut, hm, ht, List.append_assoc] at hy
  exact hy

end

/-! ## The families -/

/-- Settles O12: each is a transfer at the width of M into A, or at that of X_flag into X or Y. -/
theorem transfers : Obligations.Transfers := by
  intro s
  exact ⟨transfer_implied Regs.fX Regs.a loadX_writesAs rfl rfl,
    transfer_implied Regs.fX Regs.a loadY_writesAs rfl rfl,
    transfer_implied Regs.fM Regs.x loadA_writesAs rfl rfl,
    transfer_implied Regs.fM Regs.y loadA_writesAs rfl rfl,
    transfer_implied Regs.fX Regs.x loadY_writesAs rfl rfl,
    transfer_implied Regs.fX Regs.y loadX_writesAs rfl rfl,
    transfer_implied Regs.fX Regs.s loadX_writesAs rfl rfl⟩

/-- Settles O13: the transfers between 16-bit registers do not look at M; a write of S pins SH in emulation mode. -/
theorem wideTransfers : Obligations.WideTransfers := by
  intro s
  exact ⟨implied_of_idleLast (p := progTxs) rfl rfl fun _ => rfl,
    implied_of_idleLast (p := progTcs) rfl rfl fun _ => rfl,
    implied_of_idleLast (p := progTsc) rfl rfl fun r => congrArg Prog.idleLast (loadA_eq_loadA16 r r.s),
    implied_of_idleLast (p := progTcd) rfl rfl fun _ => rfl,
    implied_of_idleLast (p := progTdc) rfl rfl fun r => congrArg Prog.idleLast (loadA_eq_loadA16 r r.d),
    rfl, xba_completes⟩

end Sys2Proof.Claims
end

section
/-! The stack instructions (46_transfer_stack.md R324 to R341; 20_memory.md R72 to R74): each push and pull is one of
two programs, for a byte and for a word, and PEA, PEI and PER end in the word's push. -/

namespace Sys2Proof.Claims

open Sys2Proof.Machine

section
variable {s : State} {i : Instr} {c : Byte} {p : Regs → Prog} {w8 : Regs → Bool}

/-! ## Pushes -/

/-- A 16-bit push that ends an instruction: only PC has moved since the boundary (R74). -/
theorem push16Last_yields_pushed16 {t : State} {code : List Byte} {v pc : Word} (hm : t.mem = s.mem) :
    (push16Last v { s.regs with pc := pc } id).Yields code t ({ s.regs with pc := pc } : Regs).decS.decS
      (pushed16 s.mem s.regs v) (t.trace ++ pushRows16 s.regs v) := by
  rw [← hm]
  exact push16Last_yields

/-- A push of one byte after an Internal cycle (R324, R328 to R330). -/
theorem pushes8_of_pushByte {v : Byte} (hexec : exec i s = runInstr c p [] s) (hcode : i.opcode = c)
    (hp : p s.regs.incPc = pushByte v s.regs.incPc) : Pushes8 i c s v := by
  refine ⟨hcode, fun hd => completes_of_yields hexec hd fun t hm ht => ?_⟩
  rw [hp]
  refine idle_yields fun u hum hut => ?_
  have hy := pushLast_yields (r := s.regs.incPc) (s := u) (code := []) (v := v) (f := id)
  rw [hum, hut, hm, ht, List.append_assoc] at hy
  exact hy

/-- A push of two bytes after an Internal cycle (R324, R331). -/
theorem pushes16_of_pushReg {v : Word} (hexec : exec i s = runInstr c p [] s) (hcode : i.opcode = c)
    (hp : p s.regs.incPc = pushReg false v s.regs.incPc) : Pushes16 i c s v := by
  refine ⟨hcode, fun hd => completes_of_yields hexec hd fun t hm ht => ?_⟩
  rw [hp]
  refine idle_yields fun u hum hut => ?_
  have hy := push16Last_yields_pushed16 (code := []) (v := v) (pc := s.regs.pc + 1#16) (hum.trans hm)
  rw [hut, ht] at hy
  exact hy

/-- A push of the register `v` at the width `w8`, neither of which depends on PC (R325 to R327). -/
theorem pushReg_pushes (v : Regs → Word) (hexec : exec i s = runInstr c (fun r => pushReg (w8 r) (v r) r) [] s)
    (hcode : i.opcode = c) (hw : w8 s.regs.incPc = w8 s.regs) (hv : v s.regs.incPc = v s.regs) :
    (w8 s.regs = true → Pushes8 i c s (lo8 (v s.regs))) ∧ (w8 s.regs = false → Pushes16 i c s (v s.regs)) :=
  ⟨fun h8 => pushes8_of_pushByte hexec hcode (by rw [hw, hv, h8]; rfl),
    fun h16 => pushes16_of_pushReg hexec hcode (by rw [hw, hv, h16])⟩

/-! ## Pulls -/

/-- A pull of one byte after two Internal cycles, `f` its write-back (R332, R336, R337). -/
theorem pulls8_of_pullLast {f : Byte → Regs → Regs} (hexec : exec i s = runInstr c p [] s) (hcode : i.opcode = c)
    (hp : p s.regs.incPc = idle s.regs.incPc (idle s.regs.incPc (pullLast s.regs.incPc f))) : Pulls8 i c s f := by
  refine ⟨hcode, fun hd => completes_of_yields hexec hd fun t hm ht => ?_⟩
  rw [hp]
  refine idle_yields fun u hum hut => idle_yields fun v hvm hvt => ?_
  have hy := pullLast_yields (r := s.regs.incPc) (s := v) (code := []) (wb := f)
  have hmem : v.mem = s.mem := hvm.trans (hum.trans hm)
  rw [State.readMem_of_mem hmem, hmem, hvt, hut, ht, List.append_assoc, List.append_assoc] at hy
  exact hy

/-- A pull of two bytes after two Internal cycles, low byte first (R332, R338). -/
theorem pulls16_of_pull {f : Word → Regs → Regs} (hexec : exec i s = runInstr c p [] s) (hcode : i.opcode = c)
    (hp : p s.regs.incPc = idle s.regs.incPc (idle s.regs.incPc
      (pull s.regs.incPc fun lo r => pullLast r fun hi r => f (word hi lo) r))) :
    Pulls16 i c s f := by
  refine ⟨hcode, fun hd => completes_of_yields hexec hd fun t hm ht => ?_⟩
  rw [hp]
  refine idle_yields fun u hum hut => idle_yields fun v hvm hvt => pull_yields fun w hwm hwt => ?_
  have hmem : v.mem = s.mem := hvm.trans (hum.trans hm)
  rw [State.readMem_of_mem hmem]
  have hy := pullLast_yields (r := s.regs.incPc.incS) (s := w) (code := [])
    (wb := fun hi r => f (word hi (s.readMem s.regs.incPc.incS.stackAddr)) r)
  rw [State.readMem_of_mem (hwm.trans hmem), hwm, hmem, hwt, hvt, hut, ht, List.append_assoc, List.append_assoc,
    List.append_assoc] at hy
  exact hy

/-- A pull at the width `w8`, which does not depend on PC (R333 to R335). -/
theorem pullReg_pulls {op : (n : Nat) → BitVec n → Regs → Regs} {f8 : Byte → Regs → Regs} {f16 : Word → Regs → Regs}
    (hop : WritesAs op f8 f16) (hexec : exec i s = runInstr c (fun r => pullReg (w8 r) r op) [] s)
    (hcode : i.opcode = c) (hw : w8 s.regs.incPc = w8 s.regs) :
    (w8 s.regs = true → Pulls8 i c s f8) ∧ (w8 s.regs = false → Pulls16 i c s f16) := by
  refine ⟨fun h8 => pulls8_of_pullLast hexec hcode ?_, fun h16 => pulls16_of_pull hexec hcode ?_⟩
  · simp only [pullReg, hw, h8, if_true, hop.byte]
  · simp only [pullReg, hw, h16, Bool.false_eq_true, if_false, hop.word]

/-- The write of a whole status byte: in emulation mode, and where X_flag was 1 already, X and Y stay (R369). -/
theorem setP_eq_writeP (r : Regs) (v : Byte) : r.setP v = writeP v r := by
  cases hE : r.fE <;> simp [Regs.setP, writeP, narrowIndex, hE]

end

/-! ## The families -/

/-- Settles O14: PHA, PHX and PHY push at the width of their register, the others one byte or one word always. -/
theorem pushes : Obligations.Pushes := by
  intro s
  obtain ⟨hpha8, hpha16⟩ := pushReg_pushes (s := s) (i := .pha) (w8 := Regs.fM) Regs.a rfl rfl rfl rfl
  obtain ⟨hphx8, hphx16⟩ := pushReg_pushes (s := s) (i := .phx) (w8 := Regs.fX) Regs.x rfl rfl rfl rfl
  obtain ⟨hphy8, hphy16⟩ := pushReg_pushes (s := s) (i := .phy) (w8 := Regs.fX) Regs.y rfl rfl rfl rfl
  exact ⟨hpha8, hpha16, hphx8, hphx16, hphy8, hphy16, pushes8_of_pushByte (p := progPhp) rfl rfl rfl,
    pushes8_of_pushByte (p := progPhb) rfl rfl rfl, pushes8_of_pushByte (p := progPhk) rfl rfl rfl,
    pushes16_of_pushReg (p := progPhd) rfl rfl rfl⟩

/-- Settles O15: PLA, PLX and PLY pull at the width of their register, the others one byte or one word always. -/
theorem pulls : Obligations.Pulls := by
  intro s
  obtain ⟨hpla8, hpla16⟩ := pullReg_pulls (s := s) (i := .pla) (w8 := Regs.fM) loadA_writesAs rfl rfl rfl
  obtain ⟨hplx8, hplx16⟩ := pullReg_pulls (s := s) (i := .plx) (w8 := Regs.fX) loadX_writesAs rfl rfl rfl
  obtain ⟨hply8, hply16⟩ := pullReg_pulls (s := s) (i := .ply) (w8 := Regs.fX) loadY_writesAs rfl rfl rfl
  exact ⟨hpla8, hpla16, hplx8, hplx16, hply8, hply16,
    pulls8_of_pullLast (p := progPlp) rfl rfl (by simp only [progPlp, setP_eq_writeP]),
    pulls8_of_pullLast (p := progPlb) rfl rfl rfl, pulls16_of_pull (p := progPld) rfl rfl rfl⟩

section
variable {s : State}

/-- PEA pushes its operand (R339). -/
theorem pea_completes {w : Word} (hd : s.dispatches 0xF4#8 = true) :
    Completes (.pea w) s (nextPc s 3).decS.decS (pushed16 s.mem s.regs w)
      (s.opcodeRow ++ s.operandRows 2 ++ pushRows16 s.regs w) := by
  refine completes_of_yields (p := progPea) (code := bytesW w) rfl hd fun t hm ht =>
    fetchWord_rows hm ht fun u hum hut _ => ?_
  rw [word_hi8_lo8, ← hut]
  exact push16Last_yields_pushed16 hum

theorem readWord0_of_mem {t : State} (h : t.mem = s.mem) (a : Word) : t.readWord0 a = s.readWord0 a := by
  simp only [State.readWord0, State.readMem_of_mem h]

/-- PEI pushes the word at the direct-page pointer (R340). -/
theorem pei_completes {off : Byte} (hd : s.dispatches 0xD4#8 = true) :
    Completes (.pei off) s (nextPc s 2).decS.decS
      (pushed16 s.mem s.regs (s.readWord0 (s.regs.d + zext off)))
      (s.opcodeRow ++ s.directRows ++ readRows 0x00#8 (s.regs.d + zext off) 2 ++
        pushRows16 s.regs (s.readWord0 (s.regs.d + zext off))) := by
  refine completes_of_yields (p := progPei) (code := [off]) rfl hd fun t hm ht =>
    fetchDirect_yields hm ht fun u hum hut => readPtr_yields fun v hvm hvt => ?_
  have hrows : v.trace = s.opcodeRow ++ s.directRows ++ readRows 0x00#8 (s.regs.d + zext off) 2 := by rw [hvt, hut]; rfl
  rw [readWord0_of_mem hum, ← hrows]
  exact push16Last_yields_pushed16 (hvm.trans hum)

/-- PER pushes the sum of its operand and the address of the next instruction (R341). -/
theorem per_completes {w : Word} (hd : s.dispatches 0x62#8 = true) :
    Completes (.per w) s (nextPc s 3).decS.decS (pushed16 s.mem s.regs (s.regs.pc + 3#16 + w))
      (s.opcodeRow ++ s.operandRows 2 ++ [.internal] ++ pushRows16 s.regs (s.regs.pc + 3#16 + w)) := by
  refine completes_of_yields (p := progPer) (code := bytesW w) rfl hd fun t hm ht =>
    fetchWord_rows hm ht fun u hum hut _ => idle_yields fun v hvm hvt => ?_
  rw [word_hi8_lo8, ← hut, ← hvt]
  exact push16Last_yields_pushed16 (hvm.trans hum)

end

/-- Settles O16: each of the three fetches its operand, makes the value of it and pushes that as a word. -/
theorem pushEffective : Obligations.PushEffective :=
  fun _ _ _ => ⟨⟨rfl, pea_completes⟩, ⟨rfl, pei_completes⟩, ⟨rfl, per_completes⟩⟩

end Sys2Proof.Claims
end

section
/-! The block moves (46_transfer_stack.md R342 to R344): MVN and MVP are one program, of which the step of the index
registers is a parameter. -/

namespace Sys2Proof.Claims

open Sys2Proof.Machine

/-- The count has passed 0 exactly when it was 0 before (R342). -/
theorem sub_one_eq_ffff_iff (a : Word) : a - 1#16 = 0xFFFF#16 ↔ a = 0x0000#16 := by
  bv_omega

/-- Both index registers stepped at the width of X_flag; at 8 bits their high bytes are left (R22). -/
theorem atX_stepXY (step : (n : Nat) → BitVec n → BitVec n) (r : Regs) :
    (r.atX fun n r => (r.setX (step n (r.getX n))).setY (step n (r.getY n))) =
      { r with x := if r.fX then word (hi8 r.x) (step 8 (lo8 r.x)) else step 16 r.x
               y := if r.fX then word (hi8 r.y) (step 8 (lo8 r.y)) else step 16 r.y } := by
  cases hX : r.fX <;> simp [Regs.atX, Regs.setX, Regs.setY, hX]

/-- The registers after the last row (R342): `pc0` is where the program counter goes back to until the count has passed
0. -/
theorem blockMove_lastRegs (step : (n : Nat) → BitVec n → BitVec n) (r : Regs) (pc0 : Word) :
    let moved : Regs :=
      { r.atX fun n r => (r.setX (step n (r.getX n))).setY (step n (r.getY n)) with a := r.a - 1#16 }
    (if moved.a != 0xFFFF#16 then { moved with pc := pc0 } else moved) =
      { r with a := r.a - 1#16, pc := if r.a = 0x0000#16 then r.pc else pc0
               x := if r.fX then word (hi8 r.x) (step 8 (lo8 r.x)) else step 16 r.x
               y := if r.fX then word (hi8 r.y) (step 8 (lo8 r.y)) else step 16 r.y } := by
  rw [atX_stepXY]
  by_cases ha : r.a = 0x0000#16
  · simp [ha]
  · simp [ha, sub_one_eq_ffff_iff]

/-- An Internal cycle as the last row, its registers, memory and trace in the form wanted. -/
theorem idleLast_yields_of_eq {r R : Regs} {s : State} {M : Memory} {TR : List BusCycle} {code : List Byte}
    (hr : r = R) (hm : s.mem = M) (ht : s.trace ++ [.internal] = TR) : (Prog.idleLast r).Yields code s R M TR :=
  hr ▸ hm ▸ ht ▸ idleLast_yields

/-- One execution of a block move, whatever the step of its index registers. -/
theorem blockMove_moves {s : State} {i : Byte → Byte → Instr} {c dst src : Byte}
    (step : (n : Nat) → BitVec n → BitVec n)
    (hexec : exec (i dst src) s = runInstr c (fun r => blockMove r step) [dst, src] s)
    (hcode : (i dst src).opcode = c) : Moves i c s dst src (step 16) (step 8) := by
  refine ⟨hcode, fun hd => completes_of_yields hexec hd fun t hm ht => ?_⟩
  have hq : t.Quiet := fun a => by rw [ht]; rfl
  dsimp only [blockMove]
  refine fetchByte_yields hq fun u hum hut huq => fetchByte_yields huq fun v hvm hvt _ =>
    readByte_yields fun w hwm hwt => write_yields fun x hxm hxt => idle_yields fun y hym hyt =>
      idleLast_yields_of_eq ?_ ?_ ?_
  · have hpc0 : s.regs.incPc.pc - 1#16 = s.regs.pc := BitVec.add_sub_cancel _ _
    have hpc3 : s.regs.incPc.incPc.incPc = { s.regs with pc := s.regs.pc + 3#16 } := by
      simp [Regs.incPc, BitVec.add_assoc]
    refine (blockMove_lastRegs step { s.regs.incPc.incPc.incPc with db := dst } _).trans ?_
    simp only [hpc0, hpc3]
  · rw [hym, hxm, hwm, State.readMem_of_mem (hvm.trans (hum.trans hm)), hvm, hum, hm]
    rfl
  · rw [hyt, hxt, hwt, State.readMem_of_mem (hvm.trans (hum.trans hm)), hvt, hut, ht]
    simp [State.operandRows, State.operandRow, Regs.codeAddr, Regs.incPc, BitVec.add_assoc]

/-- Settles O17: MVN steps X and Y up, MVP down. -/
theorem blockMoves : Obligations.BlockMoves := fun _ _ _ =>
  ⟨blockMove_moves (fun _ => inc) rfl rfl, blockMove_moves (fun _ => dec) rfl rfl⟩

end Sys2Proof.Claims
end

section
/-! The flag instructions (47_flags_mode.md R360 to R372; 41_addressing.md R176): each but REP and SEP is one Internal
cycle that writes its flag, and XCE's exchange is the one whose effect depends on what it writes. -/

namespace Sys2Proof.Claims

open Sys2Proof.Machine

/-- PC past one byte more. -/
theorem nextPc_incPc (s : State) (n : Nat) : (nextPc s n).incPc = nextPc s (n + 1) := by
  simp [nextPc, Regs.incPc, BitVec.ofNat_add, BitVec.add_assoc]

theorem incPc_incPc (s : State) : s.regs.incPc.incPc = nextPc s 2 := nextPc_incPc s 1

/-- An implied instruction completes with what its one Internal cycle writes (R176). -/
theorem implied_writes {s : State} {i : Instr} {c : Byte} {g : Regs → Regs}
    (hexec : exec i s = runInstr c (fun r => implied r g) [] s) (hcode : i.opcode = c) : Implied i c s g :=
  implied_of_idleLast hexec hcode fun _ => rfl

/-- Settles O18: each writes its flag in the Internal cycle that is its whole program, and NOP nothing. -/
theorem flagInstructions : Obligations.FlagInstructions := fun _ =>
  ⟨implied_writes rfl rfl, implied_writes rfl rfl, implied_writes rfl rfl, implied_writes rfl rfl,
    implied_writes rfl rfl, implied_writes rfl rfl, implied_writes rfl rfl, implied_writes rfl rfl⟩

/-- REP and SEP fetch the mask and write the status byte that `f` makes of it and of P (R367, R368). -/
theorem statusMask_completes {s : State} {i : Instr} {c k : Byte} (f : Byte → Byte → Byte)
    (hexec : exec i s = runInstr c (fun r => statusMask r f) [k] s) (hd : s.dispatches c = true) :
    Completes i s (writeP (f s.regs.p k) (nextPc s 2)) s.mem (s.opcodeRow ++ s.operandRows 1 ++ [.internal]) := by
  refine completes_of_yields hexec hd fun t hm ht =>
    fetchByte_yields (fun a => by rw [ht]; rfl) fun u hum hut _ => idleLast_yields_of_eq ?_ (hum.trans hm) ?_
  · rw [incPc_incPc, setP_eq_writeP]
    rfl
  · rw [hut, ht]
    rfl

/-- Settles O19: the two instructions differ in what they make of P and the mask. -/
theorem statusMasks : Obligations.StatusMasks := fun _ _ =>
  ⟨⟨rfl, statusMask_completes (fun p k => p &&& ~~~k) rfl⟩, ⟨rfl, statusMask_completes (fun p k => p ||| k) rfl⟩⟩

/-- Settles O20: E is then 1 exactly when C was 1, and then emulation mode is entered. -/
theorem exchangeCarryEmulation : Obligations.ExchangeCarryEmulation := by
  refine fun s => implied_of_idleLast (p := progXce) rfl rfl fun r => congrArg Prog.idleLast ?_
  cases hC : r.fC with
  | true => simp [Regs.exchangeCE, Regs.enterEmulation, hC]
  | false => simp [Regs.exchangeCE, hC]

end Sys2Proof.Claims
end

section
/-! Branches and jumps (48_control_flow.md R390 to R405): what is not taken or read is only a row, and the deferred
write-back of a jump writes PC or PB. -/

namespace Sys2Proof.Machine

section
variable {s : State} {R : Regs} {M : Memory} {TR : List BusCycle} {code : List Byte}

/-- A result in the form wanted. -/
theorem Prog.Yields.of_eq {p : Prog} {R' : Regs} {M' : Memory} {TR' : List BusCycle} (h : p.Yields code s R M TR)
    (hr : R = R') (hm : M = M') (ht : TR = TR') : p.Yields code s R' M' TR' := hr ▸ hm ▸ ht ▸ h

/-- A last instruction-stream Read whose byte is not used (R390). -/
theorem fetchUnused_yields {r : Regs} {b : Byte} : (Prog.readLast .stream r.codeAddr r.incPc none).Yields (b :: code) s
    r.incPc s.mem (s.trace ++ [.read r.codeAddr]) := ⟨rfl, rfl, rfl, rfl, rfl⟩

/-- With nothing but the opcode read, no Write has gone to the instruction's own bytes. -/
theorem State.quiet_of_opcodeRow {t : State} (ht : t.trace = s.opcodeRow) : t.Quiet := fun a => by rw [ht]; rfl

end

/-- Internal rows may change places. -/
theorem internalIf_append_internal (c : Bool) : internalIf c ++ [.internal] = [.internal] ++ internalIf c := by
  cases c <;> rfl

/-- The last rows of a taken branch are one Internal cycle and, before it, one more where a page is crossed (R390). -/
theorem branch_true (r : Regs) : branch true r = fetchByte r fun b r =>
    idleIf (r.fE && hi8 (r.pc + sext b) != hi8 r.pc) { r with pc := r.pc + sext b }
      (.idleLast { r with pc := r.pc + sext b }) := rfl

end Sys2Proof.Machine

namespace Sys2Proof.Claims

open Sys2Proof.Machine

section
variable {s : State} {c : Byte}

/-! ## Branches -/

/-- A short branch whose condition does not depend on PC (R390). -/
theorem branch_branches {i : Byte → Instr} {rel : Byte} (taken : Regs → Bool)
    (hexec : exec (i rel) s = runInstr c (fun r => branch (taken r) r) [rel] s) (hcode : (i rel).opcode = c)
    (htaken : taken s.regs.incPc = taken s.regs) : Branches i c s rel (taken s.regs) := by
  refine ⟨hcode, fun hd => completes_of_yields hexec hd fun t hm ht => ?_⟩
  dsimp only
  rw [htaken]
  cases taken s.regs with
  | false =>
    refine fetchUnused_yields.of_eq (incPc_incPc s) hm ?_
    rw [ht]
    simp only [internalIf, Bool.false_and, Bool.false_eq_true, if_false, List.append_nil]
    rfl
  | true =>
    rw [branch_true]
    refine fetchByte_yields (State.quiet_of_opcodeRow ht) fun u hum hut _ => idleIf_yields fun v hvm hvt => ?_
    rw [incPc_incPc] at hvt ⊢
    refine idleLast_yields_of_eq rfl (hvm.trans (hum.trans hm)) ?_
    rw [hvt, hut, ht, List.append_assoc, internalIf_append_internal, ← List.append_assoc]
    rfl

/-- Settles O22: the nine branches differ in their condition, a flag or none. -/
theorem shortBranches : Obligations.ShortBranches := by
  intro s rel
  exact ⟨branch_branches (fun r => !r.fN) rfl rfl rfl, branch_branches (fun r => r.fN) rfl rfl rfl,
    branch_branches (fun r => !r.fV) rfl rfl rfl, branch_branches (fun r => r.fV) rfl rfl rfl,
    branch_branches (fun r => !r.fC) rfl rfl rfl, branch_branches (fun r => r.fC) rfl rfl rfl,
    branch_branches (fun r => !r.fZ) rfl rfl rfl, branch_branches (fun r => r.fZ) rfl rfl rfl,
    branch_branches (fun _ => true) rfl rfl rfl⟩

/-! ## Jumps -/

/-- A jump whose program sets PB and PC beside its cycles (R400 to R405). -/
theorem jumps_of_yields {i : Instr} {p : Regs → Prog} {code : List Byte} {pb : Byte} {pc : Word} {rows : List BusCycle}
    (hexec : exec i s = runInstr c p code s) (hcode : i.opcode = c)
    (h : ∀ t : State, t.mem = s.mem → t.trace = s.opcodeRow →
      (p s.regs.incPc).Yields code t { s.regs with pb := pb, pc := pc } s.mem (s.opcodeRow ++ rows)) :
    Jumps i c s pb pc rows := ⟨hcode, fun hd => completes_of_yields hexec hd h⟩

/-- The two Reads of a 16-bit pointer, which is the new PC (R403, R404, R407). -/
theorem jumpThrough_yields {t : State} {bank : Byte} {p : Word} {r : Regs} {code : List Byte} :
    (jumpThrough bank p r).Yields code t
      { r with pc := word (t.readMem (addr bank (p + 1#16))) (t.readMem (addr bank p)) } t.mem
      (t.trace ++ readRows bank p 2) := by
  refine readByte_yields fun u hum hut => (readLast_yields rfl).of_eq ?_ hum ?_
  · rw [State.readMem_of_mem hum]
  · rw [hut, List.append_assoc]
    simp [readRows]

theorem brl_jumps (w : Word) :
    Jumps (.brl w) 0x82#8 s s.regs.pb (s.regs.pc + 3#16 + w) (s.operandRows 2 ++ [.internal]) := by
  refine jumps_of_yields (p := branchLong) (code := bytesW w) rfl rfl fun t hm ht => ?_
  unfold branchLong
  refine fetchWord_rows hm ht fun u hum hut _ => idleLast_yields_of_eq ?_ hum ?_
  · rw [word_hi8_lo8]
  · rw [hut, List.append_assoc]

theorem jmpAbs_jumps (w : Word) : Jumps (.jmpAbs w) 0x4C#8 s s.regs.pb w (s.operandRows 2) := by
  refine jumps_of_yields (p := jumpAbs) (code := bytesW w) rfl rfl fun t hm ht => ?_
  unfold jumpAbs
  refine fetchByte_yields (State.quiet_of_opcodeRow ht) fun u hum hut huq => ?_
  rw [incPc_incPc]
  refine (fetchLast_yields huq rfl).of_eq ?_ (hum.trans hm) ?_
  · rw [word_hi8_lo8]
    rfl
  · rw [hut, ht, List.append_assoc]
    rfl

theorem jmlLong_jumps (l : Addr) : Jumps (.jmlLong l) 0x5C#8 s (bankOf l) (offsetOf l) (s.operandRows 3) := by
  refine jumps_of_yields (p := jumpLong) (code := bytesL l) rfl rfl fun t hm ht => ?_
  unfold jumpLong
  refine fetchWord_rows hm ht fun u hum hut huq => (fetchLast_yields huq rfl).of_eq ?_ hum ?_
  · rw [word_hi8_lo8]
    rfl
  · rw [hut, List.append_assoc]
    rfl

theorem jmpInd_jumps (w : Word) : Jumps (.jmpInd w) 0x6C#8 s s.regs.pb
    (word (s.readMem (addr 0x00#8 (w + 1#16))) (s.readMem (addr 0x00#8 w)))
    (s.operandRows 2 ++ readRows 0x00#8 w 2) := by
  refine jumps_of_yields (p := jumpInd) (code := bytesW w) rfl rfl fun t hm ht => ?_
  unfold jumpInd
  refine fetchWord_rows hm ht fun u hum hut _ => ?_
  rw [word_hi8_lo8]
  refine jumpThrough_yields.of_eq ?_ hum ?_
  · rw [State.readMem_of_mem hum, State.readMem_of_mem hum]
  · rw [hut, List.append_assoc]

theorem jmpXInd_jumps (w : Word) : Jumps (.jmpXInd w) 0x7C#8 s s.regs.pb
    (word (s.readMem (addr s.regs.pb (w + s.regs.x + 1#16))) (s.readMem (addr s.regs.pb (w + s.regs.x))))
    (s.operandRows 2 ++ [.internal] ++ readRows s.regs.pb (w + s.regs.x) 2) := by
  refine jumps_of_yields (p := jumpXInd) (code := bytesW w) rfl rfl fun t hm ht => ?_
  unfold jumpXInd
  refine fetchWord_rows hm ht fun u hum hut _ => idle_yields fun v hvm hvt => ?_
  rw [word_hi8_lo8]
  have hmem := hvm.trans hum
  refine jumpThrough_yields.of_eq ?_ hmem ?_
  · rw [State.readMem_of_mem hmem, State.readMem_of_mem hmem]
  · rw [hvt, hut, List.append_assoc, List.append_assoc, List.append_assoc]

theorem jmlIndLong_jumps (w : Word) : Jumps (.jmlIndLong w) 0xDC#8 s (s.readMem (addr 0x00#8 (w + 2#16)))
    (word (s.readMem (addr 0x00#8 (w + 1#16))) (s.readMem (addr 0x00#8 w)))
    (s.operandRows 2 ++ readRows 0x00#8 w 3) := by
  refine jumps_of_yields (p := jumpIndLong) (code := bytesW w) rfl rfl fun t hm ht => ?_
  unfold jumpIndLong
  refine fetchWord_rows hm ht fun u hum hut _ => ?_
  rw [word_hi8_lo8]
  refine readPtr_yields fun v hvm hvt => ?_
  have hmem := hvm.trans hum
  refine (readLast_yields rfl).of_eq ?_ hmem ?_
  · rw [State.readMem_of_mem hmem, readWord0_of_mem hum]
    rfl
  · rw [hvt, hut, List.append_assoc, List.append_assoc]
    rfl

end

/-- Settles O23: each fetches its operand; the indirect ones then read their pointer in bank 0 or PB. -/
theorem longBranchAndJumps : Obligations.LongBranchAndJumps := fun _ w l =>
  ⟨brl_jumps w, jmpAbs_jumps w, jmlLong_jumps l, jmpInd_jumps w, jmpXInd_jumps w, jmlIndLong_jumps w⟩

end Sys2Proof.Claims
end

section
/-! Calls and returns (48_control_flow.md R406 to R410). JSR (a,X) and JSL read their last operand byte after a push, so
it is what the host answers where the push went to its address (70_reset_and_hazards.md R503). -/

namespace Sys2Proof.Machine

section
variable {s : State} {R : Regs} {M : Memory} {TR : List BusCycle} {code : List Byte}

/-- An instruction-stream Read anywhere in an instruction, its byte what the host answers (R503). -/
theorem fetchByte_yields_answer {r : Regs} {b : Byte} {k : Byte → Regs → Prog}
    (hk : ∀ t : State, t.mem = s.mem → t.trace = s.trace ++ [.read r.codeAddr] →
      (k (s.answer .stream r.codeAddr (b :: code)) r.incPc).Yields code t R M TR) :
    (fetchByte r k).Yields (b :: code) s R M TR := by
  obtain ⟨hr, hm, ht, hc, hw⟩ := hk
    (((s.cycRead r.codeAddr r.incPc).goOn.supply (s.answer .stream r.codeAddr (b :: code))).consume) (by simp) (by simp)
  exact ⟨hr, hm, ht, hc, hw⟩

/-- The host answers with the instruction's own byte, unless the instruction has written its address (R503). -/
theorem State.answer_stream_of_iff {a : Addr} {b : Byte} {P : Prop} [Decidable P]
    (h : s.trace.any (BusCycle.writesTo a) = true ↔ P) :
    s.answer .stream a (b :: code) = if P then s.mem.get a.toNat else b :=
  ite_congr (propext h) (fun _ => rfl) (fun _ => rfl)

end

end Sys2Proof.Machine

namespace Sys2Proof.Claims

open Sys2Proof.Machine

/-! ## Calls -/

section
variable {s : State}

/-- The return address of a call, counted from its opcode (R406). -/
theorem incPc_pc_sub_one_add (s : State) (k : Word) : s.regs.incPc.pc - 1#16 + k = s.regs.pc + k :=
  congrArg (· + k) (BitVec.add_sub_cancel _ _)

theorem jsrAbs_completes (w : Word) (hd : s.dispatches 0x20#8 = true) :
    Completes (.jsrAbs w) s { s.regs.decS.decS with pc := w } (pushed16 s.mem s.regs (s.regs.pc + 2#16))
      (s.opcodeRow ++ s.operandRows 2 ++ [.internal] ++ pushRows16 s.regs (s.regs.pc + 2#16)) := by
  refine completes_of_yields (p := callAbs) (code := bytesW w) rfl hd fun t hm ht => ?_
  unfold callAbs
  rw [incPc_pc_sub_one_add]
  refine fetchWord_rows hm ht fun u hum hut _ => idle_yields fun v hvm hvt => push16Last_yields.of_eq ?_ ?_ ?_
  · rw [word_hi8_lo8]
    rfl
  · rw [hvm, hum]
    rfl
  · rw [hvt, hut]
    rfl

theorem jsrXInd_completes (w : Word) (hd : s.dispatches 0xFC#8 = true) :
    let ret := s.regs.pc + 2#16
    let m := pushed16 s.mem s.regs ret
    let at2 := addr s.regs.pb (s.regs.pc + 2#16)
    let aah := if addr 0x00#8 s.regs.s = at2 ∨ addr 0x00#8 s.regs.decS.s = at2 then m.get at2.toNat else hi8 w
    let p := word aah (lo8 w) + s.regs.x
    Completes (.jsrXInd w) s
      { s.regs.decS.decS with pc := word (m.get (addr s.regs.pb (p + 1#16)).toNat) (m.get (addr s.regs.pb p).toNat) } m
      (s.opcodeRow ++ s.operandRows 1 ++ pushRows16 s.regs ret ++ [s.operandRow 2, .internal] ++
        readRows s.regs.pb p 2) := by
  intro ret m at2 aah p
  refine completes_of_yields (p := callXInd) (code := bytesW w) rfl hd fun t hm ht => ?_
  unfold callXInd
  dsimp only
  rw [incPc_pc_sub_one_add]
  refine fetchByte_yields (State.quiet_of_opcodeRow ht) fun u hum hut _ => push_yields fun v hvm hvt =>
    push_yields fun x hxm hxt => ?_
  rw [incPc_incPc] at hvm hvt hxm hxt ⊢
  have hmem : x.mem = m := by rw [hxm, hvm, hum, hm]; rfl
  have htrace : x.trace = s.opcodeRow ++ s.operandRows 1 ++ pushRows16 s.regs ret := by
    rw [hxt, hvt, hut, ht, List.append_assoc (s.opcodeRow ++ _)]
    rfl
  have hwritten : x.trace.any (BusCycle.writesTo at2) = true ↔
      addr 0x00#8 s.regs.s = at2 ∨ addr 0x00#8 s.regs.decS.s = at2 := by
    rw [htrace]
    simp [State.opcodeRow, State.operandRows, State.operandRow, pushRows16, @eq_comm _ at2]
  have hanswer : x.answer .stream (nextPc s 2).decS.decS.codeAddr [hi8 w] = aah :=
    (State.answer_stream_of_iff hwritten).trans (by rw [hmem])
  refine fetchByte_yields_answer fun y hym hyt => idle_yields fun z hzm hzt => ?_
  rw [hanswer]
  have hzmem : z.mem = m := hzm.trans (hym.trans hmem)
  refine jumpThrough_yields.of_eq ?_ hzmem ?_
  · rw [State.readMem, State.readMem, hzmem]
    rfl
  · rw [hzt, hyt, htrace, List.append_assoc (_ ++ _) [_] [_]]
    rfl

theorem jsl_completes (l : Addr) (hd : s.dispatches 0x22#8 = true) :
    let ret := s.regs.pc + 3#16
    let m := s.mem.set (addr 0x00#8 s.regs.s).toNat s.regs.pb
    let at3 := addr s.regs.pb (s.regs.pc + 3#16)
    let bank := if addr 0x00#8 s.regs.s = at3 then m.get at3.toNat else bankOf l
    Completes (.jsl l) s { s.regs.decS.decS.decS with pb := bank, pc := offsetOf l } (pushed16 m s.regs.decS ret)
      (s.opcodeRow ++ s.operandRows 2 ++ [.write (addr 0x00#8 s.regs.s) s.regs.pb, .internal, s.operandRow 3] ++
        pushRows16 s.regs.decS ret) := by
  intro ret m at3 bank
  refine completes_of_yields (p := callLong) (code := bytesL l) rfl hd fun t hm ht => ?_
  unfold callLong
  dsimp only
  rw [incPc_pc_sub_one_add]
  refine fetchWord_rows hm ht fun u hum hut _ => push_yields fun v hvm hvt => idle_yields fun x hxm hxt => ?_
  have hmem : x.mem = m := by rw [hxm, hvm, hum]; rfl
  have htrace : x.trace = s.opcodeRow ++ s.operandRows 2 ++ [.write (addr 0x00#8 s.regs.s) s.regs.pb, .internal] := by
    rw [hxt, hvt, hut, List.append_assoc]
    rfl
  have hwritten : x.trace.any (BusCycle.writesTo at3) = true ↔ addr 0x00#8 s.regs.s = at3 := by
    rw [htrace]
    simp [State.opcodeRow, State.operandRows, State.operandRow, @eq_comm _ at3]
  have hanswer : x.answer .stream (nextPc s 3).decS.codeAddr [bankOf l] = bank :=
    (State.answer_stream_of_iff hwritten).trans (by rw [hmem])
  refine fetchByte_yields_answer fun y hym hyt => ?_
  rw [word_hi8_lo8]
  refine push16Last_yields.of_eq ?_ ?_ ?_
  · exact congrArg (fun b => { s.regs.decS.decS.decS with pb := b, pc := offsetOf l }) hanswer
  · rw [hym, hmem]
    rfl
  · rw [hyt, htrace, List.append_assoc]
    rfl

end

/-- Settles O24: each call pushes its return address among its other rows. -/
theorem calls : Obligations.Calls := fun _ w l =>
  ⟨⟨rfl, jsrAbs_completes w⟩, ⟨rfl, jsrXInd_completes w⟩, ⟨rfl, jsl_completes l⟩⟩

/-! ## Returns -/

section
variable {s : State}

/-- The rows that both returns begin with: the pulls of the return address, low byte first (R409, R410). -/
def returnRows (s : State) : List BusCycle :=
  [.internal, .internal, .read (addr 0x00#8 s.regs.incS.s), .read (addr 0x00#8 s.regs.incS.incS.s)]

/-- A return that goes on with `k` from the address it has pulled. -/
theorem pullReturn_yields {t : State} {R : Regs} {M : Memory} {TR : List BusCycle} {k : Word → Regs → Prog}
    (hm : t.mem = s.mem) (ht : t.trace = s.opcodeRow)
    (hk : ∀ u : State, u.mem = s.mem → u.trace = s.opcodeRow ++ returnRows s →
      (k (word (pulled s s.regs.incS) (pulled s s.regs)) s.regs.incPc.incS.incS).Yields [] u R M TR) :
    (idle s.regs.incPc (idle s.regs.incPc
      (pull s.regs.incPc fun lo r => pull r fun hi r => k (word hi lo) r))).Yields [] t R M TR := by
  refine idle_yields fun u hum hut => idle_yields fun v hvm hvt => pull_yields fun x hxm hxt =>
    pull_yields fun y hym hyt => ?_
  have hv : v.mem = s.mem := hvm.trans (hum.trans hm)
  rw [State.readMem_of_mem hv, State.readMem_of_mem (hxm.trans hv)]
  refine hk y (hym.trans (hxm.trans hv)) ?_
  rw [hyt, hxt, hvt, hut, ht]
  simp only [List.append_assoc]
  rfl

theorem rts_completes (hd : s.dispatches 0x60#8 = true) :
    Completes .rts s { s.regs.incS.incS with pc := word (pulled s s.regs.incS) (pulled s s.regs) + 1#16 } s.mem
      (s.opcodeRow ++ returnRows s ++ [.internal]) := by
  refine completes_of_yields (p := returnShort) (code := []) rfl hd fun t hm ht => ?_
  refine pullReturn_yields hm ht (k := fun w r => .idleLast { r with pc := w + 1#16 }) fun u hum hut => ?_
  exact idleLast_yields_of_eq rfl hum (by rw [hut])

theorem rtl_completes (hd : s.dispatches 0x6B#8 = true) :
    Completes .rtl s
      { s.regs.incS.incS.incS with
        pb := pulled s s.regs.incS.incS, pc := word (pulled s s.regs.incS) (pulled s s.regs) + 1#16 } s.mem
      (s.opcodeRow ++ returnRows s ++ [.read (addr 0x00#8 s.regs.incS.incS.incS.s)]) := by
  refine completes_of_yields (p := returnLong) (code := []) rfl hd fun t hm ht => ?_
  refine pullReturn_yields hm ht
    (k := fun w r => pullLast r fun bank r => { r with pb := bank, pc := w + 1#16 }) fun u hum hut => ?_
  refine pullLast_yields.of_eq ?_ hum (by rw [hut]; rfl)
  rw [State.readMem_of_mem hum]
  rfl

end

/-- Settles O25: both pull the return address; RTL then pulls PB where RTS has an Internal cycle. -/
theorem returns : Obligations.Returns := fun _ => ⟨⟨rfl, rts_completes⟩, ⟨rfl, rtl_completes⟩⟩

end Sys2Proof.Claims
end

section
/-! A call and the return after it (48_control_flow.md R411): the stack pointer steps down over bytes that differ from
one another, so each byte pulled is the one pushed there, and steps back up to where it was. -/

namespace Sys2Proof.Machine

/-! ## The stack pointer down and up -/

/-- In either mode SL counts down by one (R71). -/
theorem Regs.lo8_decS (r : Regs) : lo8 r.decS.s = lo8 r.s - 1#8 := by
  rw [Regs.decS_s]
  split
  · rw [lo8_word, lo8_sub]
    rfl
  · rw [lo8_sub]
    rfl

/-- Where SH is pinned as the invariant says, `incS()` undoes `decS()` (R28, R71). -/
theorem Regs.Ok.incS_decS {r : Regs} (h : r.Ok) : r.decS.incS = r := by
  have hs : r.decS.incS.s = r.s := by
    cases hE : r.fE with
    | false =>
      simp only [Regs.incS_s, Regs.decS_s, Regs.decS_fE, hE, Bool.false_eq_true, if_false]
      exact BitVec.sub_add_cancel _ _
    | true =>
      obtain ⟨hpin, -⟩ := h
      obtain ⟨-, -, hhi⟩ := hpin hE
      have hlo : lo8 (r.decS.s + 1#16) = lo8 r.s := by
        rw [lo8_add, Regs.lo8_decS]
        exact BitVec.sub_add_cancel _ _
      rw [Regs.incS_s, Regs.decS_fE, if_pos hE, hlo, ← hhi, word_hi8_lo8]
  calc r.decS.incS = { r with s := r.decS.incS.s } := rfl
    _ = r := by rw [hs]

/-- The same wherever PC has gone, within the bank or out of it. -/
theorem Regs.Ok.incS_of_eq {r q : Regs} (h : r.Ok) {bank : Byte} {pc : Word}
    (hq : q = { r.decS with pb := bank, pc := pc }) : q.incS = { r with pb := bank, pc := pc } := by
  rw [hq]
  exact congrArg (fun q : Regs => { q with pb := bank, pc := pc }) h.incS_decS

theorem Regs.decS_s_ne (r : Regs) : r.decS.s ≠ r.s := by
  intro h
  have hlo := r.lo8_decS
  rw [h] at hlo
  bv_omega

theorem Regs.decS_decS_s_ne (r : Regs) : r.decS.decS.s ≠ r.s := by
  intro h
  have hlo := r.decS.lo8_decS
  rw [h, r.lo8_decS] at hlo
  bv_omega

/-- What is dispatched depends on `IMPL_SET` alone. -/
theorem State.dispatches_of_implSet {s t : State} (h : t.implSet = s.implSet) (op : Byte) :
    t.dispatches op = s.dispatches op := by
  rw [State.dispatches, State.dispatches, h]

end Sys2Proof.Machine

namespace Sys2Proof.Claims

open Sys2Proof.Machine

/-! ## The bytes pushed -/

section
variable {m : Memory} {r : Regs} {v : Word}

/-- Different stack pointers address different bytes. -/
theorem stackByte_ne {p q : Word} (h : p ≠ q) : addr 0x00#8 p ≠ addr 0x00#8 q := fun e => h ((addr_inj ..).1 e).2

theorem get_pushed16_low (hm : m.wf = true) : (pushed16 m r v).get (addr 0x00#8 r.decS.s).toNat = lo8 v :=
  Memory.get_set_same (Memory.set_wf hm _ _) _ _

theorem get_pushed16_high (hm : m.wf = true) : (pushed16 m r v).get (addr 0x00#8 r.s).toNat = hi8 v :=
  (Memory.get_set_of_ne (stackByte_ne r.decS_s_ne.symm) _ _).trans (Memory.get_set_same hm _ _)

theorem get_pushed16_other {p : Word} (h : r.s ≠ p) (h' : r.decS.s ≠ p) :
    (pushed16 m r v).get (addr 0x00#8 p).toNat = m.get (addr 0x00#8 p).toNat :=
  (Memory.get_set_of_ne (stackByte_ne h'.symm) _ _).trans (Memory.get_set_of_ne (stackByte_ne h.symm) _ _)

/-! ## Calls and returns in a row -/

variable {i : Instr} {s t u : State} {tr : List BusCycle}

/-- What an instruction that completes answers is what it completes with. -/
theorem eq_of_completes {R : Regs} (h : Completes i s R m tr) (he : exec i s = .next t) :
    t.regs = R ∧ t.mem = m ∧ t.implSet = s.implSet := by
  obtain ⟨q, hq, hregs, hmem, -, -, -, himpl, -⟩ := h
  rw [Host.Outcome.next.inj (he.symm.trans hq)]
  exact ⟨hregs, hmem, himpl⟩

/-- The pulls of a return address from where it was pushed, whatever bank and offset the block has gone to. -/
theorem pulls_after_push {r : Regs} {bank : Byte} {pc : Word} (hr : r.Ok) (hm : m.wf = true)
    (htr : t.regs = { r.decS.decS with pb := bank, pc := pc }) (htm : t.mem = pushed16 m r v) :
    t.regs.incS.incS = { r with pb := bank, pc := pc } ∧ word (pulled t t.regs.incS) (pulled t t.regs) = v := by
  have h1 : t.regs.incS = { r.decS with pb := bank, pc := pc } := (hr.setS _).incS_of_eq htr
  have h2 : t.regs.incS.incS = { r with pb := bank, pc := pc } := hr.incS_of_eq h1
  have hlo : pulled t t.regs = lo8 v := by
    rw [pulled, h1, State.readMem, htm]
    exact get_pushed16_low hm
  have hhi : pulled t t.regs.incS = hi8 v := by
    rw [pulled, h2, State.readMem, htm]
    exact get_pushed16_high hm
  exact ⟨h2, by rw [hlo, hhi, word_hi8_lo8]⟩

/-- RTS after an instruction that has pushed the return address `v` and gone to `pc`. -/
theorem rts_after_push {pc : Word} (hr : s.regs.Ok) (hm : s.mem.wf = true) (hd : s.dispatches 0x60#8 = true)
    (hc : Completes i s { s.regs.decS.decS with pc := pc } (pushed16 s.mem s.regs v) tr)
    (ht : exec i s = .next t) (hu : exec .rts t = .next u) : u.regs = { s.regs with pc := v + 1#16 } := by
  obtain ⟨htr, htm, hti⟩ := eq_of_completes hc ht
  obtain ⟨hur, -, -⟩ := eq_of_completes (rts_completes ((State.dispatches_of_implSet hti _).trans hd)) hu
  obtain ⟨hregs, hword⟩ := pulls_after_push hr hm htr htm
  rw [hur, hregs, hword]
  rfl

/-- RTL after an instruction that has pushed PB and the return address `v` and gone to `bank:pc`. -/
theorem rtl_after_push {pc : Word} {bank : Byte} (hr : s.regs.Ok) (hm : s.mem.wf = true)
    (hd : s.dispatches 0x6B#8 = true)
    (hc : Completes i s { s.regs.decS.decS.decS with pb := bank, pc := pc }
      (pushed16 (s.mem.set (addr 0x00#8 s.regs.s).toNat s.regs.pb) s.regs.decS v) tr)
    (ht : exec i s = .next t) (hu : exec .rtl t = .next u) : u.regs = { s.regs with pc := v + 1#16 } := by
  obtain ⟨htr, htm, hti⟩ := eq_of_completes hc ht
  obtain ⟨hur, -, -⟩ := eq_of_completes (rtl_completes ((State.dispatches_of_implSet hti _).trans hd)) hu
  obtain ⟨hregs, hword⟩ := pulls_after_push (hr.setS _) (Memory.set_wf hm _ _) htr htm
  have hregs' : t.regs.incS.incS.incS = { s.regs with pb := bank, pc := pc } := hr.incS_of_eq hregs
  have hbank : pulled t t.regs.incS.incS = s.regs.pb := by
    rw [pulled, hregs', State.readMem, htm]
    exact (get_pushed16_other s.regs.decS_s_ne s.regs.decS_decS_s_ne).trans (Memory.get_set_same hm _ _)
  rw [hur, hregs', hword, hbank]

end

/-- Settles O26: the calls push the address before the one to return to, and the returns pull what they pushed. -/
theorem callReturnRoundTrip : Obligations.CallReturnRoundTrip := by
  intro s t u w l hr hm
  have hnext : ∀ k : Nat, s.regs.pc + BitVec.ofNat 16 k + 1#16 = s.regs.pc + BitVec.ofNat 16 (k + 1) := fun k => by
    rw [BitVec.ofNat_add, BitVec.add_assoc]
  refine ⟨fun hd hdc ht hu => ?_, fun hd hdc ht hu => ?_, fun hd hdc ht hu => ?_⟩
  · rw [rts_after_push hr hm hd (jsrAbs_completes w hdc) ht hu]
    exact ⟨hnext 2, rfl, rfl⟩
  · rw [rts_after_push hr hm hd (jsrXInd_completes w hdc) ht hu]
    exact ⟨hnext 2, rfl, rfl⟩
  · rw [rtl_after_push hr hm hd (jsl_completes l hdc) ht hu]
    exact ⟨hnext 3, rfl, rfl⟩

end Sys2Proof.Claims
end

section
/-! Opcodes that are not dispatched (49_excluded.md R430 to R436; 60_exceptions.md R451). -/

namespace Sys2Proof.Machine

/-- An instruction whose opcode is not dispatched is rejected, whether or not the dispatch table has an entry for it. -/
theorem exec_of_not_dispatches {i : Instr} {s : State} (h : s.dispatches i.opcode = false) :
    exec i s = .next (s.rejectOpcode i.opcode) := by
  rw [exec_eq]
  split
  · exact runInstr_of_not_dispatches h _ _
  · rfl

/-- Settles O28: such an opcode is not dispatched, so the instruction is rejected. -/
theorem unimplementedOpcodes : Obligations.UnimplementedOpcodes := by
  intro s i h
  have hd : s.dispatches i.opcode = false := by
    refine Bool.eq_false_iff.2 fun hd => ?_
    obtain ⟨hset, hnot⟩ := (s.dispatches_iff _).1 hd
    exact h.elim (fun hclear => Bool.false_ne_true (hclear.symm.trans hset)) hnot
  exact ⟨_, exec_of_not_dispatches hd, rfl, rfl, rfl, rfl, rfl, rfl, rfl⟩

/-- Settles O27: the opcodes of the six are the excluded ones. -/
theorem excludedOpcodes : Obligations.ExcludedOpcodes := fun s _ =>
  ⟨fun i hi => unimplementedOpcodes s i (.inr (List.mem_map_of_mem (f := Instr.opcode) hi)),
    rfl, rfl, rfl, rfl, rfl, rfl⟩

end Sys2Proof.Machine
end

section
/-! The faults of the write-back (60_exceptions.md R450, R452): only ADC and SBC have one, and where they fault they
have done what an instruction without effect does. -/

namespace Sys2Proof.Machine

open Sys2Proof.Claims

/-! ## Relations between programs that Reads and Internal cycles keep -/

/-- Programs that begin with the same Read or Internal cycle are related where what follows is. -/
structure Prog.RowClosed (Q : Prog → Prog → Prop) : Prop where
  read : ∀ {src a r k k'}, (∀ b, Q (k b) (k' b)) → Q (.read src a r k) (.read src a r k')
  idle : ∀ {r k k'}, Q k k' → Q (.idle r k) (.idle r k')

section
variable {Q : Prog → Prog → Prop} {P : Regs → Prop} {r : Regs}

theorem Prog.RowClosed.idleIf (hQ : Prog.RowClosed Q) {c : Bool} {k k' : Prog} (h : Q k k') :
    Q (idleIf c r k) (idleIf c r k') := by
  unfold Machine.idleIf
  split
  · exact hQ.idle h
  · exact h

theorem Prog.RowClosed.fetchDirect (hQ : Prog.RowClosed Q) (hpc : ∀ q, P q → P q.incPc) (h : P r)
    {k k' : Byte → Regs → Prog} (hk : ∀ b q, P q → Q (k b q) (k' b q)) : Q (fetchDirect r k) (fetchDirect r k') :=
  hQ.read fun _ => hQ.idleIf (hk _ _ (hpc _ h))

theorem Prog.RowClosed.readPtr (hQ : Prog.RowClosed Q) {p : Word} {k k' : Word → Prog} (hk : ∀ w, Q (k w) (k' w)) :
    Q (readPtr p r k) (readPtr p r k') := hQ.read fun _ => hQ.read fun _ => hk _

/-- The address cycles of a mode are Reads and Internal cycles, and change no register but PC. -/
theorem Prog.RowClosed.resolve (hQ : Prog.RowClosed Q) (hpc : ∀ q, P q → P q.incPc) (h : P r) {m : Mode}
    {c : AccessClass} {k k' : EA → Regs → Prog} (hk : ∀ ea q, P q → Q (k ea q) (k' ea q)) :
    Q (resolve m c r k) (resolve m c r k') := by
  cases m with
  | dp => exact hQ.fetchDirect hpc h fun _ _ hq => hk _ _ hq
  | dpX | dpY => exact hQ.fetchDirect hpc h fun _ _ hq => hQ.idle (hk _ _ hq)
  | dpInd => exact hQ.fetchDirect hpc h fun _ _ hq => hQ.readPtr fun _ => hk _ _ hq
  | dpXInd => exact hQ.fetchDirect hpc h fun _ _ hq => hQ.idle (hQ.readPtr fun _ => hk _ _ hq)
  | dpIndY => exact hQ.fetchDirect hpc h fun _ _ hq => hQ.readPtr fun _ => hQ.idleIf (hk _ _ hq)
  | dpLong | dpLongY => exact hQ.fetchDirect hpc h fun _ _ hq => hQ.readPtr fun _ => hQ.read fun _ => hk _ _ hq
  | abs => exact hQ.read fun _ => hQ.read fun _ => hk _ _ (hpc _ (hpc _ h))
  | absX | absY => exact hQ.read fun _ => hQ.read fun _ => hQ.idleIf (hk _ _ (hpc _ (hpc _ h)))
  | long | longX => exact hQ.read fun _ => hQ.read fun _ => hQ.read fun _ => hk _ _ (hpc _ (hpc _ (hpc _ h)))
  | sr => exact hQ.read fun _ => hQ.idle (hk _ _ (hpc _ h))
  | srIndY => exact hQ.read fun _ => hQ.idle (hQ.readPtr fun _ => hQ.idle (hk _ _ (hpc _ h)))

end

/-! ## Which faults a program can raise -/

/-- Every fault that the program's write-back raises is one of these. -/
def Prog.FaultsIn (E : Fault → Prop) : Prog → Prop
  | .read _ _ _ k => ∀ b, (k b).FaultsIn E
  | .readLast _ _ _ none => True
  | .readLast _ _ _ (some f) => ∀ b e, f b = .error e → E e
  | .write _ _ _ k | .idle _ k => k.FaultsIn E
  | .writeLast _ _ _ | .idleLast _ => True

/-- A run that halts has raised one of them. -/
theorem Prog.run_fault {E : Fault → Prop} {p : Prog} (h : p.FaultsIn E) {code : List Byte} {s : State} {e : Fault}
    (hc : (p.run code s).cont = .halted e) : E e := by
  induction p generalizing code s with
  | read src a r k ih => exact ih _ (h _) hc
  | readLast src a r wb =>
    rw [Prog.run_readLast] at hc
    cases wb with
    | none => cases hc
    | some f =>
      rw [State.settle_some] at hc
      split at hc
      · cases hc
      · cases hc
        exact h _ _ ‹_›
  | write a v r k ih => exact ih h hc
  | writeLast a v r => cases hc
  | idle r k ih => exact ih h hc
  | idleLast r => cases hc

/-- On register files with this D_flag the operation raises these faults only. -/
def ReadOp.FaultsIn (E : Fault → Prop) (fD : Bool) (op : ReadOp) : Prop :=
  ∀ n b q e, q.fD = fD → op n b q = .error e → E e

section
variable {E : Fault → Prop} {r : Regs} {op : ReadOp}

theorem Prog.faultsIn_rowClosed : Prog.RowClosed fun p _ => p.FaultsIn E := ⟨fun h => h, fun h => h⟩

theorem resolve_faultsIn {m : Mode} {c : AccessClass} {k : EA → Regs → Prog}
    (hk : ∀ ea q, q.fD = r.fD → (k ea q).FaultsIn E) : (resolve m c r k).FaultsIn E :=
  Prog.faultsIn_rowClosed.resolve (P := fun q => q.fD = r.fD) (k' := k) (fun _ h => h) rfl hk

theorem readPhase_faultsIn {w8 : Bool} {ea : EA} (hop : op.FaultsIn E r.fD) : (readPhase w8 ea r op).FaultsIn E := by
  cases w8
  · exact fun _ _ _ => hop _ _ _ _ rfl
  · exact fun _ _ => hop _ _ _ _ rfl

theorem immPhase_faultsIn {w8 : Bool} (hop : op.FaultsIn E r.fD) : (immPhase w8 r op).FaultsIn E := by
  cases w8
  · exact fun _ _ _ => hop _ _ _ _ rfl
  · exact fun _ _ => hop _ _ _ _ rfl

theorem immPhase_readOnly {w8 : Bool} : (immPhase w8 r op).ReadOnly := by
  cases w8
  · exact fun _ => trivial
  · trivial

theorem readM_faultsIn {m : Mode} (hop : op.FaultsIn E r.fD) : (readM m r op).FaultsIn E :=
  resolve_faultsIn fun _ _ hq => readPhase_faultsIn (hq ▸ hop)

theorem readX_faultsIn {m : Mode} (hop : op.FaultsIn E r.fD) : (readX m r op).FaultsIn E :=
  resolve_faultsIn fun _ _ hq => readPhase_faultsIn (hq ▸ hop)

theorem writePhase_faultsIn {w8 : Bool} {ea : EA} {v : Word} : (writePhase w8 ea v r).FaultsIn E := by
  cases w8 <;> trivial

theorem storeM_faultsIn {m : Mode} {v : Regs → Word} : (storeM m r v).FaultsIn E :=
  resolve_faultsIn fun _ _ _ => writePhase_faultsIn

theorem storeX_faultsIn {m : Mode} {v : Regs → Word} : (storeX m r v).FaultsIn E :=
  resolve_faultsIn fun _ _ _ => writePhase_faultsIn

theorem rmwPhase_faultsIn {w8 : Bool} {ea : EA} {f : RmwOp} : (rmwPhase w8 ea r f).FaultsIn E := by
  cases w8
  · exact fun _ _ => trivial
  · exact fun _ => trivial

theorem rmwM_faultsIn {m : Mode} {f : RmwOp} : (rmwM m r f).FaultsIn E :=
  resolve_faultsIn fun _ _ _ => rmwPhase_faultsIn

theorem idleIf_faultsIn {c : Bool} {k : Prog} (h : k.FaultsIn E) : (idleIf c r k).FaultsIn E := by
  unfold idleIf; split <;> exact h

theorem branch_faultsIn {taken : Bool} : (branch taken r).FaultsIn E := by
  cases taken
  · trivial
  · exact fun _ => idleIf_faultsIn (k := .idleLast _) trivial

theorem pushReg_faultsIn {w8 : Bool} {v : Word} : (pushReg w8 v r).FaultsIn E := by
  cases w8 <;> trivial

theorem pullReg_faultsIn {w8 : Bool} {op : (n : Nat) → BitVec n → Regs → Regs} : (pullReg w8 r op).FaultsIn E := by
  cases w8
  · exact fun _ _ _ => nofun
  · exact fun _ _ => nofun

/-- ADC and SBC raise one fault, and that with D_flag = 1 only (R452). -/
theorem sumOp_faultsIn (f : (n : Nat) → BitVec n → Regs → AluOut n) (e : Fault) (fD : Bool) :
    ReadOp.FaultsIn (fun e' => e' = e ∧ fD = true) fD
      fun n b q => if q.fD then .error e else .ok (q.putSum (f n b q)) := by
  intro n b q e' hq h
  dsimp only at h
  split at h <;> cases h
  exact ⟨rfl, hq ▸ ‹_›⟩

end

/-! ## The dispatch table -/

/-- A program that raises no fault. -/
abbrev Prog.NeverFaults : Prog → Prop := Prog.FaultsIn fun _ => False

/-- A program of ADC or SBC: it writes no memory, and the one fault it raises is R452's, with D_flag = 1. -/
def Prog.FaultsDecimal (op : Byte) (r : Regs) (p : Prog) : Prop :=
  op ∈ adcSbcOpcodes ∧ p.ReadOnly ∧ p.FaultsIn fun e => e = decimalFault op r ∧ r.fD = true

/-- Only the dispatch table's entries of ADC and SBC raise a fault. -/
theorem progOf_opcode_faults (i : Instr) {p : Regs → Prog} (hp : progOf i.opcode = some p) (r : Regs) :
    (p r).NeverFaults ∨ (p r).FaultsDecimal i.opcode r := by
  cases i with (dsimp only [Instr.opcode] at hp ⊢; cases hp)
  | adcDpXInd | adcSr | adcDp | adcDpLong | adcAbs | adcLong | adcDpIndY | adcDpInd | adcSrIndY | adcDpX | adcDpLongY
  | adcAbsY | adcAbsX | adcLongX
  | sbcDpXInd | sbcSr | sbcDp | sbcDpLong | sbcAbs | sbcLong | sbcDpIndY | sbcDpInd | sbcSrIndY | sbcDpX | sbcDpLongY
  | sbcAbsY | sbcAbsX | sbcLongX => exact .inr ⟨by decide, readM_readOnly, readM_faultsIn (sumOp_faultsIn _ _ _)⟩
  | adcImm | sbcImm => exact .inr ⟨by decide, immPhase_readOnly, immPhase_faultsIn (sumOp_faultsIn _ _ _)⟩
  | cmpDpXInd | cmpSr | cmpDp | cmpDpLong | cmpAbs | cmpLong | cmpDpIndY | cmpDpInd | cmpSrIndY | cmpDpX | cmpDpLongY
  | cmpAbsY | cmpAbsX | cmpLongX
  | andDpXInd | andSr | andDp | andDpLong | andAbs | andLong | andDpIndY | andDpInd | andSrIndY | andDpX | andDpLongY
  | andAbsY | andAbsX | andLongX
  | oraDpXInd | oraSr | oraDp | oraDpLong | oraAbs | oraLong | oraDpIndY | oraDpInd | oraSrIndY | oraDpX | oraDpLongY
  | oraAbsY | oraAbsX | oraLongX
  | eorDpXInd | eorSr | eorDp | eorDpLong | eorAbs | eorLong | eorDpIndY | eorDpInd | eorSrIndY | eorDpX | eorDpLongY
  | eorAbsY | eorAbsX | eorLongX
  | ldaDpXInd | ldaSr | ldaDp | ldaDpLong | ldaAbs | ldaLong | ldaDpIndY | ldaDpInd | ldaSrIndY | ldaDpX | ldaDpLongY
  | ldaAbsY | ldaAbsX | ldaLongX
  | bitDp | bitAbs | bitDpX | bitAbsX => exact .inl (readM_faultsIn fun _ _ _ _ _ => nofun)
  | cpxDp | cpxAbs | cpyDp | cpyAbs
  | ldxDp | ldxAbs | ldxDpY | ldxAbsY | ldyDp | ldyAbs | ldyDpX | ldyAbsX =>
    exact .inl (readX_faultsIn fun _ _ _ _ _ => nofun)
  | cmpImm | andImm | oraImm | eorImm | ldaImm | bitImm | cpxImm | cpyImm | ldxImm | ldyImm =>
    exact .inl (immPhase_faultsIn fun _ _ _ _ _ => nofun)
  | staDpXInd | staSr | staDp | staDpLong | staAbs | staLong | staDpIndY | staDpInd | staSrIndY | staDpX | staDpLongY
  | staAbsY | staAbsX | staLongX | stzDp | stzDpX | stzAbs | stzAbsX => exact .inl storeM_faultsIn
  | stxDp | stxAbs | stxDpY | styDp | styAbs | styDpX => exact .inl storeX_faultsIn
  | aslDp | aslAbs | aslDpX | aslAbsX | lsrDp | lsrAbs | lsrDpX | lsrAbsX
  | rolDp | rolAbs | rolDpX | rolAbsX | rorDp | rorAbs | rorDpX | rorAbsX
  | incDp | incAbs | incDpX | incAbsX | decDp | decAbs | decDpX | decAbsX | tsbDp | tsbAbs | trbDp | trbAbs =>
    exact .inl rmwM_faultsIn
  | aslA | lsrA | rolA | rorA | incA | decA
  | tax | tyx | tsx | inx | dex | tay | txy | iny | dey | txa | tya | tsc | tdc | tcd | txs | tcs | xba
  | php | phb | phk | clc | sec | cld | sed | cli | sei | clv | xce | nop => exact .inl trivial
  | plp | plb => exact .inl fun _ _ => nofun
  | pld => exact .inl fun _ _ _ => nofun
  | rts => exact .inl fun _ _ => trivial
  | rtl => exact .inl fun _ _ _ _ => nofun
  | pha | phx | phy | phd => exact .inl pushReg_faultsIn
  | pla | plx | ply => exact .inl pullReg_faultsIn
  | pei => exact .inl fun _ => idleIf_faultsIn fun _ _ => trivial
  | rep | sep => exact .inl fun _ => trivial
  | pea | per | brl | jsrAbs => exact .inl fun _ _ => trivial
  | mvn | mvp => exact .inl fun _ _ _ => trivial
  | bpl | bmi | bvc | bvs | bcc | bcs | bne | beq | bra => exact .inl branch_faultsIn
  | jmpAbs => exact .inl fun _ _ _ => nofun
  | jmlLong => exact .inl fun _ _ _ _ => nofun
  | jmpInd | jmpXInd | jsrXInd => exact .inl fun _ _ _ _ _ => nofun
  | jmlIndLong => exact .inl fun _ _ _ _ _ _ => nofun
  | jsl => exact .inl fun _ _ _ => trivial

/-- Settles O34: a rejected opcode halts after its opcode fetch; the run of any other ends at a boundary, or halts with
a fault that its program raises, which only ADC and SBC have. -/
theorem onlyTwoFaults : Obligations.OnlyTwoFaults := by
  intro i s t h
  cases hd : s.dispatches i.opcode with
  | false =>
    rw [exec_of_not_dispatches hd] at h
    obtain rfl := Host.Outcome.next.inj h
    exact .inr (.inl ⟨rfl, rfl, rfl⟩)
  | true =>
    obtain ⟨p, hp⟩ := State.exists_progOf_of_dispatches hd
    rw [exec_eq, hp] at h
    obtain rfl := Host.Outcome.next.inj ((runInstr_of_dispatches hd p _).symm.trans h)
    obtain ⟨hfetch, hwb⟩ | ⟨e, hhalt⟩ := Prog.run_ends (p s.regs.incPc) i.operandBytes (s.fetchOpcode i.opcode)
    · exact .inl ⟨hfetch, hwb, rfl⟩
    · obtain hnever | ⟨hop, hreadOnly, hfault⟩ := progOf_opcode_faults i hp s.regs.incPc
      · exact (Prog.run_fault hnever hhalt).elim
      · obtain ⟨rfl, hD⟩ := Prog.run_fault hfault hhalt
        refine .inr (.inr ⟨hhalt.trans ?_, rfl, hop, hD, Prog.run_mem_of_readOnly hreadOnly _ _⟩)
        rw [decimalFault, Regs.incPc_pb, Regs.incPc_pc, BitVec.add_sub_cancel]

/-! ## ADC and SBC with D_flag = 1 -/

/-- Wherever it is run, `p` halts with the fault, having done to registers, memory and trace what `q` does. -/
def Prog.HaltsAs (e : Fault) (p q : Prog) : Prop := ∀ code s, (p.run code s).cont = .halted e ∧
  (p.run code s).regs = (q.run code s).regs ∧ (p.run code s).mem = (q.run code s).mem ∧
  (p.run code s).trace = (q.run code s).trace

/-- The read-class operation without effect. -/
def idleOp : ReadOp := fun _ _ r => .ok r

section
variable {e : Fault} {r : Regs} {op : ReadOp}

theorem Prog.haltsAs_rowClosed : Prog.RowClosed (Prog.HaltsAs e) := ⟨fun h _ _ => h _ _ _, fun h _ _ => h _ _⟩

/-- A fault in the place of the write-back leaves the registers as the last row does (R452). -/
theorem readLast_haltsAs {src : Source} {a : Addr} {f : Byte → Except Fault Regs} (h : ∀ b, f b = .error e) :
    (Prog.readLast src a r (some f)).HaltsAs e (.readLast src a r (some fun _ => .ok r)) := by
  intro code s
  rw [Prog.run_readLast, Prog.run_readLast, State.settle_some, State.settle_some, h]
  exact ⟨rfl, rfl, rfl, rfl⟩

theorem readPhase_haltsAs {w8 : Bool} {ea : EA} (h : ∀ n b, op n b r = .error e) :
    (readPhase w8 ea r op).HaltsAs e (readPhase w8 ea r idleOp) := by
  cases w8
  · exact Prog.haltsAs_rowClosed.read fun _ => readLast_haltsAs fun _ => h _ _
  · exact readLast_haltsAs fun _ => h _ _

/-- The operation raises the fault on every register file with D_flag = 1. -/
def ReadOp.Raises (e : Fault) (op : ReadOp) : Prop := ∀ n b q, q.fD = true → op n b q = .error e

theorem readM_haltsAs {m : Mode} (hop : op.Raises e) (hD : r.fD = true) : (readM m r op).HaltsAs e (readM m r idleOp) :=
  Prog.haltsAs_rowClosed.resolve (P := fun q => q.fD = true) (fun _ h => h) hD fun _ _ hq =>
    readPhase_haltsAs fun _ _ => hop _ _ _ hq

theorem immPhase_haltsAs {w8 : Bool} (hop : op.Raises e) (hD : r.fD = true) :
    (immPhase w8 r op).HaltsAs e (immPhase w8 r idleOp) := by
  cases w8
  · exact Prog.haltsAs_rowClosed.read fun _ => readLast_haltsAs fun _ => hop _ _ _ hD
  · exact readLast_haltsAs fun _ => hop _ _ _ hD

theorem adcOp_raises (op : Byte) (r : Regs) : (adcOp op r).Raises (decimalFault op r) := fun _ _ _ h => if_pos h
theorem sbcOp_raises (op : Byte) (r : Regs) : (sbcOp op r).Raises (decimalFault op r) := fun _ _ _ h => if_pos h

end

end Sys2Proof.Machine

namespace Sys2Proof.Claims

open Sys2Proof.Machine

section
variable {s : State} {i : Instr} {c : Byte} {tr : List BusCycle}

/-- An instruction halts with the decimal fault where it does what a program does that completes with PC past it. -/
theorem haltsDecimal_of_yields {p : Regs → Prog} {q : Prog} {code : List Byte} {n : Nat}
    (hexec : exec i s = runInstr c p code s) (hcode : i.opcode = c)
    (hhalts : (p s.regs.incPc).HaltsAs (decimalFault c s.regs.incPc) q)
    (hy : ∀ t : State, t.mem = s.mem → t.trace = s.opcodeRow → q.Yields code t (nextPc s n) s.mem tr) :
    HaltsDecimal i c s n tr := by
  refine ⟨hcode, fun hd => ?_⟩
  obtain ⟨hregs, hmem, htrace, -, -⟩ := hy (s.fetchOpcode c) rfl rfl
  obtain ⟨hcont, hr, hm, ht⟩ := hhalts code (s.fetchOpcode c)
  rw [decimalFault, Regs.incPc_pb, Regs.incPc_pc, BitVec.add_sub_cancel] at hcont
  refine ⟨_, hexec.trans (runInstr_of_dispatches hd _ _), hcont, hr.trans hregs, hm.trans hmem, ht.trans htrace,
    fun hl => ?_⟩
  obtain ⟨hhalted, -, -⟩ := haltedStays _ _ 0 hcont
  exact (hhalted ((Prog.run_launched _ _ _).trans hl)).2

/-- A memory form of ADC or SBC. -/
theorem Form.RunsAs.haltsDecimal {f : Form} {op : Byte → Regs → ReadOp}
    (hf : f.RunsAs fun r => readM f.m r (op f.op r)) (hcode : f.i.opcode = f.op)
    (hop : ∀ c r, (op c r).Raises (decimalFault c r)) (hD : s.regs.fD = true) :
    HaltsDecimal f.i f.op s (1 + f.code.length) (f.readTrace s s.regs.fM) := by
  refine haltsDecimal_of_yields (hf.exec_eq s) hcode (readM_haltsAs (hop _ _) hD) fun t hm ht => ?_
  rw [hf.length]
  exact readM_yields hm ht hf.length (fun _ => rfl) (fun _ => rfl)

theorem readM_forms_haltDecimal {fs : List Form} (op : Byte → Regs → ReadOp)
    (hfs : ∀ f ∈ fs, f.RunsAs fun r => readM f.m r (op f.op r))
    (hcode : fs.map (fun f => f.i.opcode) = fs.map Form.op) (hop : ∀ c r, (op c r).Raises (decimalFault c r))
    (hD : s.regs.fD = true) :
    ∀ f ∈ fs, HaltsDecimal f.i f.op s (1 + f.code.length) (f.readTrace s s.regs.fM) :=
  fun f hf => (hfs f hf).haltsDecimal (List.map_inj_left.1 hcode f hf) hop hD

/-- The immediate form of ADC or SBC at 8 bits. -/
theorem imm_haltsDecimal8 (op : Byte → Regs → ReadOp) {v : Byte} (hM : s.regs.fM = true)
    (hexec : exec i s = runInstr c (fun r => immM r (op c r)) [v] s) (hcode : i.opcode = c)
    (hop : ∀ c r, (op c r).Raises (decimalFault c r)) (hD : s.regs.fD = true) :
    HaltsDecimal i c s 2 (s.opcodeRow ++ s.operandRows 1) :=
  haltsDecimal_of_yields hexec hcode (immPhase_haltsAs (hop _ _) hD) fun _ hm ht => immPhase_yields8 hM hm ht rfl

/-- The same at 16 bits. -/
theorem imm_haltsDecimal16 (op : Byte → Regs → ReadOp) {v : Word} (hM : s.regs.fM = false)
    (hexec : exec i s = runInstr c (fun r => immM r (op c r)) (bytesW v) s) (hcode : i.opcode = c)
    (hop : ∀ c r, (op c r).Raises (decimalFault c r)) (hD : s.regs.fD = true) :
    HaltsDecimal i c s 3 (s.opcodeRow ++ s.operandRows 2) :=
  haltsDecimal_of_yields hexec hcode (immPhase_haltsAs (hop _ _) hD) fun _ hm ht => immPhase_yields16 hM hm ht rfl

end

/-- Settles O4: with D_flag = 1 both operations raise their fault at either width, in every form. -/
theorem decimalFault : Obligations.DecimalFault := by
  intro s b w l hD
  refine ⟨List.forall_mem_append.2 ⟨readM_forms_haltDecimal adcOp (runsAs_of_map rfl) rfl adcOp_raises hD,
    readM_forms_haltDecimal sbcOp (runsAs_of_map rfl) rfl sbcOp_raises hD⟩, fun h8 v => ?_, fun h16 v => ?_⟩
  · exact ⟨imm_haltsDecimal8 adcOp h8 rfl rfl adcOp_raises hD, imm_haltsDecimal8 sbcOp h8 rfl rfl sbcOp_raises hD⟩
  · exact ⟨imm_haltsDecimal16 adcOp h16 rfl rfl adcOp_raises hD, imm_haltsDecimal16 sbcOp h16 rfl rfl sbcOp_raises hD⟩

end Sys2Proof.Claims
end

section
/-! Reset, the block before it, and the end of a run (70_reset_and_hazards.md R490 to R495, R507, R508). -/

namespace Sys2Proof.Machine

/-- Settles O47: reset writes each field from its arguments alone; XH and YH are the zeros beside the draws. -/
theorem resetState : Obligations.ResetState := by
  intro s v dr bd
  refine ⟨rfl, rfl, rfl, rfl, rfl, rfl, rfl, rfl, rfl, hi8_word _ _, hi8_word _ _, rfl, lo8_word _ _, lo8_word _ _, ?_⟩
  exact ⟨rfl, rfl, rfl, rfl, rfl, rfl, rfl, rfl, rfl, rfl, rfl⟩

/-- Settles O48: after reset nothing is pending, so the first call is the opcode fetch with nothing to commit. -/
theorem firstInstruction : Obligations.FirstInstruction := by
  intro s v dr bd
  have hcall : (s.resetTo v dr bd).advance = (.read, (s.resetTo v dr bd).startFetch) := by
    rw [State.advance_fetch rfl rfl, State.fetchStep_of_commit_ok (State.commit_of_wb_none rfl)]
  rw [hcall]
  exact ⟨rfl, Prod.ext (bankOf_addr _ _) (offsetOf_addr _ _), rfl, rfl, rfl⟩

/-- Settles O49: every call is refused and changes nothing; power-on fixes nothing that reset does not set again. -/
theorem noStepBeforeReset : Obligations.NoStepBeforeReset := fun _ u n v m0 set dr bd =>
  ⟨fun hl => ⟨by simp [step, hl], State.advance_refused hl, State.ticks_refused hl n⟩, rfl, rfl,
    powerOn_resetTo u v m0 set dr bd⟩

/-! ## The end of a run -/

/-- Where the answer of a run lets the block stand: an end at a committed boundary at END_ADDR, a fault halted with
it. -/
def RunResult.Stands (e : Addr) : RunResult → Prop
  | .ended t => addr t.regs.pb t.regs.pc = e ∧ t.cont = .fetch ∧ t.wb = none
  | .faulted f t => t.cont = .halted f
  | .stopped _ | .running _ => True

section
variable {e : Addr} {s t : State}

/-- What settles a run: a halted block, or a boundary with its fault or with its committed state at END_ADDR. -/
theorem State.stands_of_settled {r : RunResult} (h : s.settled e = some r) : r.Stands e := by
  unfold State.settled at h
  split at h
  · split at h
    · cases h; assumption
    · rename_i hfetch
      split at h
      · cases h; rfl
      · rename_i c hcommit
        split at h <;> cases h
        have hc := State.eq_of_commit hcommit
        exact ⟨‹_›, (congrArg State.cont hc).trans hfetch, congrArg State.wb hc⟩
    · cases h
    · cases h
  · cases h; trivial

/-- A step answers a fault on a halted block only (R207): the meaning of an instruction is always a next state. -/
theorem halted_of_step_eq_fault {f : Fault} (h : step s = .fault f) : s.cont = .halted f := by
  unfold step at h
  split at h
  · split at h
    · cases h; assumption
    · unfold State.runBoundary at h
      split at h
      · rename_i c _
        obtain ⟨u, hu⟩ := exec_next c.fetchInstr c
        rw [hu] at h
        cases h
      · cases h
    · cases h
    · cases h
  · cases h

/-- However many steps a run takes, its answer stands where one that is settled at once does. -/
theorem runTo_stands (e : Addr) (n : Nat) (s : State) : (runTo e n s).Stands e := by
  induction n generalizing s with
  | zero =>
    cases hs : s.settled e with
    | none => simp [runTo, hs, RunResult.Stands]
    | some r => simpa [runTo, hs] using State.stands_of_settled hs
  | succ n ih =>
    rw [runTo]
    split
    · exact State.stands_of_settled ‹_›
    · split
      · exact ih _
      · exact halted_of_step_eq_fault ‹_›
      · trivial

/-- Any answer of a run but the refusal is that of a block that was reset. -/
theorem launched_of_runTo {n : Nat} {r : RunResult} (h : runTo e n s = r) (hr : r ≠ .stopped .advanceBeforeReset) :
    s.launched = true := eq_true_of_ne_false fun hl => hr (h.symm.trans (runTo_refused hl e n))

/-- A run at a boundary that commits at END_ADDR has ended before any step. -/
theorem runTo_of_commit_at_end (hl : s.launched = true) (hc : s.cont = .fetch) (h : s.commit = .ok t)
    (he : addr t.regs.pb t.regs.pc = e) (n : Nat) : runTo e n s = .ended t := by
  have hs : s.settled e = some (.ended t) := by simp [State.settled, hl, hc, h, Regs.codeAddr, he]
  cases n <;> simp [runTo, hs]

end

/-- Settles O50: an induction on the number of steps for where a run stands, and the refusal of a block never reset. -/
theorem runEnds : Obligations.RunEnds := by
  refine fun e n s t => ⟨fun h => ?_, fun f h => ?_, fun hl hc hk he => runTo_of_commit_at_end hl hc hk he n,
    fun hl => runTo_refused hl e n⟩
  · obtain ⟨hpc, hcont, hwb⟩ : (RunResult.ended t).Stands e := h ▸ runTo_stands e n s
    exact ⟨hpc, hcont, hwb, launched_of_runTo h nofun⟩
  · have hhalted : (RunResult.faulted f t).Stands e := h ▸ runTo_stands e n s
    exact ⟨hhalted, launched_of_runTo h nofun⟩

end Sys2Proof.Machine
end
